-- ==== Sys2Proof/Word.lean ====
section
/-! DEFINITION. The word types of the block: the byte (spec/00_scope.md section 6.1, all values unsigned), the step input word of
R60, and the form in which a read-only table of bytes is written down (spec/20_memory.md R40). -/

namespace Sys2Proof

/-- An 8-bit value: a frame byte, a scancode, a key identity, a key slot, the modifier register. -/
abbrev Byte := BitVec 8

/-- The input of one step as one 4-bit word, bit 3 `rst`, bit 2 `clear_changed`, bit 1 `clock_level`, bit 0 `data_level` (R60). -/
abbrev StepWord := BitVec 4

/-- A table of bytes by address, as address and byte pairs in one canonical form (`Memory.wf` of Machine/Tables.lean). -/
abbrev Memory := List Host.Cell

end Sys2Proof
end

