-- ==== Sys2Proof/Config.lean ====
section
/-! DEFINITION. The parameters an implementation fixes (spec/00_scope.md section 4, the table of implementation parameters). They are
not state (R21 (b)); `State` carries one `Config` as a read-only field because the host's step takes no other argument
(notes/assumptions/4.md). Which values are allowed is `Config.wf` (Machine/Operands.lean, R43); the spec's default instance is
`Config.standard` (Machine/Tables.lean). The model has no free value, so there is no opaque constant here. -/

namespace Sys2Proof

/-- The parameters of the block, each under the spec's name. -/
structure Config where
  /-- `PLAIN_TABLE`, read when `is_extended == 0` (R40 (a)). -/
  plainTable : Memory
  /-- `EXT_TABLE`, read when `is_extended == 1` (R40 (b)). -/
  extTable : Memory
  /-- `SENT_MOD(n)`, n = 0..7: the identity that denotes modifier bit n (R42). -/
  sentMod : Vector Byte 8
  /-- `SENT_CAPS`: the identity that denotes Caps Lock (R42). -/
  sentCaps : Byte
  /-- The least ordinary identity (R42, default 0x01). -/
  ordinaryFirst : Byte
  /-- The greatest ordinary identity (R42, default 0xDF). -/
  ordinaryLast : Byte
  /-- `ID_CAPSLOCK`: the ordinary identity Caps Lock is remapped to (R133). -/
  idCapsLock : Byte
  /-- `PREV_CLK_RESET`: the value of `previous_clock` after initialisation (R13, OPEN). -/
  prevClkReset : Bool
deriving DecidableEq, Repr

end Sys2Proof
end

