-- ==== Sys2Proof/Machine/Tables.lean ====
section
/-! DEFINITION. Tables of bytes: reading, writing and the canonical form (spec/20_memory.md R40, R41), and the default instance of the
parameters (spec/45_default_tables.md R160, R161; spec/00_scope.md section 4). -/

namespace Sys2Proof

/-- What an address with no entry reads as: "a total function from u8 to u8 whose value is 0 where no entry exists" (R40). -/
def Memory.unlisted : Byte := 0#8

/-- `MemRead(T, a, 1)`: the byte at index `a` (R41). Total, and it changes nothing. -/
def Memory.read : Memory → Nat → Byte
  | [], _ => Memory.unlisted
  | (k, v) :: m, a => if k = a then v else Memory.read m a

/-- The list with the entry at `a` removed. -/
def Memory.erase : Memory → Nat → Memory
  | [], _ => []
  | (k, v) :: m, a => if k = a then m else (k, v) :: Memory.erase m a

/-- The list with the entry `(a, v)` put in its place by address. -/
def Memory.insert : Memory → Nat → Byte → Memory
  | [], a, v => [(a, v)]
  | (k, u) :: m, a, v => if a < k then (a, v) :: (k, u) :: m else if k = a then (a, v) :: m else (k, u) :: Memory.insert m a v

/-- The table with `v` at `a`, in canonical form. No operation of the block writes a table ("`MemWrite`: not used by any rule", spec/00_scope.md
6.2); this is the supply of a table from outside before a run (R202 (a)), used by `placeOp` of Machine/Stimulus.lean only. -/
def Memory.write (m : Memory) (a : Nat) (v : Byte) : Memory :=
  if v = Memory.unlisted then Memory.erase m a else Memory.insert m a v

/-- The addresses rise strictly, from `lo` on. -/
def Memory.risingFrom : Nat → Memory → Bool
  | _, [] => true
  | lo, (k, _) :: m => lo ≤ k && Memory.risingFrom (k + 1) m

/-- The canonical form of a 256-entry table: addresses strictly rising and below 256, no entry equal to what an unlisted address reads as. -/
def Memory.wf (m : Memory) : Bool :=
  Memory.risingFrom 0 m && m.all (fun cell => cell.1 < 256 && cell.2 ≠ Memory.unlisted)

/-- The default `PLAIN_TABLE`: 86 non-zero entries, scancode and identity (R160). -/
def defaultPlainTable : Memory :=
  [(0x01, 0x42#8), (0x03, 0x3E#8), (0x04, 0x3C#8), (0x05, 0x3A#8), (0x06, 0x3B#8), (0x07, 0x45#8), (0x09, 0x43#8), (0x0A, 0x41#8),
   (0x0B, 0x3F#8), (0x0C, 0x3D#8), (0x0D, 0x2B#8), (0x0E, 0x35#8), (0x11, 0xE2#8), (0x12, 0xE1#8), (0x14, 0xE0#8), (0x15, 0x14#8)] ++
  [(0x16, 0x1E#8), (0x1A, 0x1D#8), (0x1B, 0x16#8), (0x1C, 0x04#8), (0x1D, 0x1A#8), (0x1E, 0x1F#8), (0x21, 0x06#8), (0x22, 0x1B#8),
   (0x23, 0x07#8), (0x24, 0x08#8), (0x25, 0x21#8), (0x26, 0x20#8), (0x29, 0x2C#8), (0x2A, 0x19#8), (0x2B, 0x09#8), (0x2C, 0x17#8)] ++
  [(0x2D, 0x15#8), (0x2E, 0x22#8), (0x31, 0x11#8), (0x32, 0x05#8), (0x33, 0x0B#8), (0x34, 0x0A#8), (0x35, 0x1C#8), (0x36, 0x23#8),
   (0x3A, 0x10#8), (0x3B, 0x0D#8), (0x3C, 0x18#8), (0x3D, 0x24#8), (0x3E, 0x25#8), (0x41, 0x36#8), (0x42, 0x0E#8), (0x43, 0x0C#8)] ++
  [(0x44, 0x12#8), (0x45, 0x27#8), (0x46, 0x26#8), (0x49, 0x37#8), (0x4A, 0x38#8), (0x4B, 0x0F#8), (0x4C, 0x33#8), (0x4D, 0x13#8),
   (0x4E, 0x2D#8), (0x52, 0x34#8), (0x54, 0x2F#8), (0x55, 0x2E#8), (0x58, 0xE8#8), (0x59, 0xE5#8), (0x5A, 0x28#8), (0x5B, 0x30#8)] ++
  [(0x5D, 0x31#8), (0x61, 0x64#8), (0x66, 0x2A#8), (0x69, 0x59#8), (0x6B, 0x5C#8), (0x6C, 0x5F#8), (0x70, 0x62#8), (0x71, 0x63#8),
   (0x72, 0x5A#8), (0x73, 0x5D#8), (0x74, 0x5E#8), (0x75, 0x60#8), (0x76, 0x29#8), (0x77, 0x53#8), (0x78, 0x44#8), (0x79, 0x57#8)] ++
  [(0x7A, 0x5B#8), (0x7B, 0x56#8), (0x7C, 0x55#8), (0x7D, 0x61#8), (0x7E, 0x47#8), (0x83, 0x40#8)]

/-- The default `EXT_TABLE`: 18 non-zero entries (R161). -/
def defaultExtTable : Memory :=
  [(0x11, 0xE6#8), (0x14, 0xE4#8), (0x1F, 0xE3#8), (0x27, 0xE7#8), (0x2F, 0x65#8), (0x4A, 0x54#8), (0x5A, 0x58#8), (0x69, 0x4D#8),
   (0x6B, 0x50#8), (0x6C, 0x4A#8), (0x70, 0x49#8), (0x71, 0x4C#8), (0x72, 0x51#8), (0x74, 0x4F#8), (0x75, 0x52#8), (0x7A, 0x4E#8)] ++
  [(0x7C, 0x46#8), (0x7D, 0x4B#8)]

/-- The default parameters (spec/00_scope.md section 4, column "default"): what the test vectors of spec/95_test_vectors.md assume.
DESIGN CHOICE that `State.reset` takes them (notes/assumptions/5.md, 6.md). -/
def Config.standard : Config where
  plainTable := defaultPlainTable
  extTable := defaultExtTable
  sentMod := #v[0xE0#8, 0xE1#8, 0xE2#8, 0xE3#8, 0xE4#8, 0xE5#8, 0xE6#8, 0xE7#8]
  sentCaps := 0xE8#8
  ordinaryFirst := 0x01#8
  ordinaryLast := 0xDF#8
  idCapsLock := 0x39#8
  prevClkReset := true

end Sys2Proof
end

