-- ==== Sys2Proof/Machine/State.lean ====
section
/-! DEFINITION. The state. `Block` is the spec's state type, exactly the eight elements of R10. `State` is the closed system the host steps: the block, its
fixed parameters, the inputs still to come, and what the last operation handed out (the last three are the model's own, notes/assumptions/1.md to 4.md). -/

namespace Sys2Proof.Machine

/-- The block's whole state: the eight elements of R10, 72 bits. -/
structure Block where
  /-- Position within the current 11-bit frame, 0..10 (R11). -/
  bitIndex : Fin 11
  /-- The data bits accumulated so far (R12). -/
  byteValue : Byte
  /-- The clock level seen by the previous step (R13). -/
  previousClock : Bool
  /-- A break prefix was seen and not yet consumed (R14). -/
  breakPending : Bool
  /-- An extended prefix was seen and not yet consumed (R15). -/
  extendedPending : Bool
  /-- One bit per modifier key (R16). -/
  modifiers : Byte
  /-- The six key slots, 0 = empty (R17). -/
  keys : Vector Byte 6
  /-- A mutation happened since the last clear (R18). -/
  changed : Bool
deriving DecidableEq, Repr

/-- The event `(code, is_break, is_extended)` the decoder hands to the tracker (R64). It is not state (R21 (c)). -/
structure Event where
  code : Byte
  isBreak : Bool
  isExtended : Bool
deriving DecidableEq, Repr

/-- What an operation hands out. -/
inductive Result where
  /-- Nothing (`None`). -/
  | none
  /-- `Some (code, is_break, is_extended)` of `poll_link`, the event ports with `evt_valid = 1` (R25). -/
  | event (e : Event)
  /-- The identity a table read returned (R120). -/
  | identity (id : Byte)
  /-- `GET_MODIFIERS` (R150). -/
  | modifiers (v : Byte)
  /-- `GET_KEYS` (R151). -/
  | keys (v : Vector Byte 6)
  /-- `HAS_CHANGED` (R152). -/
  | changed (v : Bool)
  /-- `REPORT` (R154). -/
  | report (v : Vector Byte 8)
deriving DecidableEq, Repr

/-- The closed system. -/
structure State where
  /-- The block (R10). -/
  block : Block
  /-- The parameters; no operation writes them (R52; notes/assumptions/4.md). -/
  config : Config
  /-- The step input words still to come, the next one first (R60; notes/assumptions/1.md). -/
  stimulus : List StepWord
  /-- What the last operation handed out; no operation reads it (notes/assumptions/3.md). -/
  result : Result
deriving DecidableEq, Repr

/-- The reasons for a fault: there is none. "The block raises no exception, trap, fault or error of any kind" (R180), so nobody raises one; a model
without faults is safe here, because R180 says that every operation completes normally. -/
inductive Fault where
deriving DecidableEq, Repr

/-- The reasons for a refusal. -/
inductive Refusal where
  /-- An operation that has no meaning yet, raised by an arm of `exec` only (no arm does). Safe. -/
  | notModelled (mnemonic : String)
  /-- Raised by `step`: the configuration is not well-formed ("a table that is not well-formed is refused by the model", R43). Safe: the spec gives such a
  machine no behaviour. -/
  | illFormedConfig
  /-- Raised by the RESERVED.BIT_INDEX rows: "the spec assigns them no behaviour" (R74). Safe: no state holds such a `bit_index`. -/
  | reservedBitIndex (i : Nat)
  /-- Raised by RESERVED.IDENT, and by a STEP whose event looks up a reserved identity: "the tracker has no rule for them; a model refuses the table" (R76).
  Safe: no well-formed table holds one. -/
  | reservedIdentity (id : Byte)
deriving DecidableEq, Repr

/-- What an operation or a step answers. -/
abbrev Answer := Host.Outcome State Fault Refusal

/-- The block after initialisation, given `PREV_CLK_RESET` (R27). -/
def Block.reset (prevClkReset : Bool) : Block where
  bitIndex := 0
  byteValue := 0x00#8
  previousClock := prevClkReset
  breakPending := false
  extendedPending := false
  modifiers := 0x00#8
  keys := #v[0x00#8, 0x00#8, 0x00#8, 0x00#8, 0x00#8, 0x00#8]
  changed := false

/-- The machine right after a reset step (R27, R201), with the default parameters and no input placed (notes/assumptions/1.md, 5.md, 6.md). -/
def State.reset : State where
  block := Block.reset Config.standard.prevClkReset
  config := Config.standard
  stimulus := []
  result := .none

/-- The end of an operation: the block it leaves and what it hands out. Parameters and inputs stay. -/
def State.finish (s : State) (b : Block) (r : Result) : State := { s with block := b, result := r }

end Sys2Proof.Machine
end

