-- ==== Sys2Proof/Machine/Operands.lean ====
section
/-! DEFINITION. Operand assembly: the fields of the step word (R60), the address of a table read (R71), the classes of the identity space (R42), the slot
scans (R135, R136), and the well-formedness of the parameters (R43). -/

namespace Sys2Proof

/-- `BREAK_PREFIX` (R62). -/
def breakPrefix : Byte := 0xF0#8

/-- `EXT_PREFIX` (R62). -/
def extPrefix : Byte := 0xE0#8

/-- `rst`, bit 3 of the step word (R60). -/
def StepWord.rst (w : StepWord) : Bool := w.getLsbD 3

/-- `clear_changed`, bit 2 (R60). -/
def StepWord.clr (w : StepWord) : Bool := w.getLsbD 2

/-- `clock_level`, bit 1 (R60). -/
def StepWord.clock (w : StepWord) : Bool := w.getLsbD 1

/-- `data_level`, bit 0 (R60). -/
def StepWord.data (w : StepWord) : Bool := w.getLsbD 0

/-- The class of an identity (R42). -/
inductive IdClass where
  | unmapped
  | modifier (n : Fin 8)
  | capsLock
  | ordinary
  | reserved
deriving DecidableEq, Repr

/-- `T.LOOKUP`: the entry of the table `is_extended` selects, at the index `code` (R71, R120). -/
def Config.lookup (cfg : Config) (isExtended : Bool) (code : Byte) : Byte :=
  Memory.read (if isExtended then cfg.extTable else cfg.plainTable) code.toNat

/-- The n with `SENT_MOD(n) == id` (R72). -/
def Config.modifierOf (cfg : Config) (id : Byte) : Option (Fin 8) :=
  [0, 1, 2, 3, 4, 5, 6, 7].find? (fun n : Fin 8 => cfg.sentMod[n] == id)

/-- The identity stands in the ordinary range (R42). -/
def Config.inOrdinaryRange (cfg : Config) (id : Byte) : Bool :=
  cfg.ordinaryFirst.toNat ≤ id.toNat && id.toNat ≤ cfg.ordinaryLast.toNat

/-- The class of an identity, tested in the order of R121. -/
def Config.classify (cfg : Config) (id : Byte) : IdClass :=
  if id = 0x00#8 then .unmapped
  else match cfg.modifierOf id with
    | some n => .modifier n
    | none =>
      if id = cfg.sentCaps then .capsLock
      else if cfg.inOrdinaryRange id then .ordinary
      else .reserved

/-- The nine sentinel values. -/
def Config.sentinels (cfg : Config) : List Byte := cfg.sentMod.toList ++ [cfg.sentCaps]

/-- W1: every entry of both tables is unmapped, ordinary or one of the nine sentinels; none is reserved (R43). -/
def Config.noReservedEntry (cfg : Config) : Bool :=
  (cfg.plainTable ++ cfg.extTable).all (fun cell => cfg.classify cell.2 != .reserved)

/-- W2: the nine sentinels are pairwise distinct, non-zero, and none is an ordinary identity (R43). -/
def Config.sentinelsApart (cfg : Config) : Bool :=
  decide (cfg.sentinels.Pairwise (· ≠ ·)) && cfg.sentinels.all (fun id => id ≠ 0x00#8 && !cfg.inOrdinaryRange id)

/-- W3: `ID_CAPSLOCK` is non-zero and is not a sentinel (R43), and is an ordinary identity (its type in spec/00_scope.md section 4; DEDUCED,
notes/assumptions/14.md). -/
def Config.capsIdentityOrdinary (cfg : Config) : Bool :=
  cfg.idCapsLock ≠ 0x00#8 && !cfg.sentinels.contains cfg.idCapsLock && cfg.inOrdinaryRange cfg.idCapsLock

/-- W4: 0 is never the identity of a key (R43). -/
def Config.zeroUnmapped (cfg : Config) : Bool := !cfg.inOrdinaryRange 0x00#8

/-- W5: `PLAIN_TABLE[0x1C]` is an ordinary identity and `PLAIN_TABLE[0x12]` is `SENT_MOD(1)` (R43, R162). -/
def Config.fixedEntries (cfg : Config) : Bool :=
  cfg.inOrdinaryRange (cfg.lookup false 0x1C#8) && cfg.lookup false 0x12#8 == cfg.sentMod[1]

/-- The parameters are well-formed: the tables in canonical form, and W1 to W5 (R43). -/
def Config.wf (cfg : Config) : Bool :=
  Memory.wf cfg.plainTable && Memory.wf cfg.extTable && cfg.noReservedEntry && cfg.sentinelsApart && cfg.capsIdentityOrdinary
    && cfg.zeroUnmapped && cfg.fixedEntries

namespace Machine

/-- `first i in 0..5 with P(keys[i])`, or none (spec/00_scope.md 6.2). -/
def firstSlot (p : Byte → Bool) (keys : Vector Byte 6) : Option (Fin 6) :=
  [0, 1, 2, 3, 4, 5].find? (fun i : Fin 6 => p keys[i])

/-- Some slot holds `id`. -/
def holds (keys : Vector Byte 6) (id : Byte) : Bool := (firstSlot (· == id) keys).isSome

/-- Bit `k` of `v` set to `d`, the other bits kept (R95, R131, R132). -/
def putBit (v : Byte) (k : Nat) (d : Bool) : Byte :=
  if d then v ||| (1#8 <<< k) else v &&& ~~~(1#8 <<< k)

end Machine

end Sys2Proof
end

