-- ==== Sys2Proof/Machine/Flags.lean ====
section
/-! DEFINITION. The computed flags: the falling edge (R90) and the resolution of `changed` (R137, R170, R172). -/

namespace Sys2Proof.Machine

/-- `fall = (previous_clock == 1) and (c == 0)` (R90). -/
def fallingEdge (previousClock c : Bool) : Bool := previousClock && !c

/-- A mutation lies between two blocks: the value of `modifiers` or of a slot of `keys` differs (R137, R170). -/
def mutated (before after : Block) : Bool := before.modifiers != after.modifiers || before.keys != after.keys

/-- `changed` at the end of a step: a mutation sets it and wins over a clear; a clear without a mutation clears it; else it holds (R172). -/
def resolveChanged (mutation clr changed : Bool) : Bool :=
  if mutation then true else if clr then false else changed

/-- The block at the end of a step with rst = 0, from the block the decoder left and the block the tracker left (R170). -/
def settle (clr : Bool) (decoded tracked : Block) : Block :=
  { tracked with changed := resolveChanged (mutated decoded tracked) clr decoded.changed }

end Sys2Proof.Machine
end

