-- ==== Sys2Proof/Machine/Ops.lean ====
section
/-! DEFINITION. The shared operations on the block, each from its rule's pseudocode; the meanings of the operation map and the step are made of these. There
is no operation that takes an exception and none that returns from one: the block has neither (R180, R191, R192). -/

namespace Sys2Proof.Machine

/-! ## Frame Decoder -/

/-- S.NOEDGE: `previous_clock <- c`, nothing else (R93). -/
def noEdge (c : Bool) (b : Block) : Block := { b with previousClock := c }

/-- S.START (R94). -/
def startBit (b : Block) : Block := { b with bitIndex := 1, previousClock := false }

/-- S.DATA(n): `byte_value[n-1] <- d ; bit_index <- n + 1 ; previous_clock <- 0` (R95). -/
def dataBit (n : Nat) (d : Bool) (b : Block) : Block :=
  { b with byteValue := putBit b.byteValue (n - 1) d, bitIndex := Fin.ofNat 11 (n + 1), previousClock := false }

/-- S.PARITY (R96). -/
def parityBit (b : Block) : Block := { b with bitIndex := 10, previousClock := false }

/-- F.BREAK (R110). -/
def breakByte (b : Block) : Block := { b with breakPending := true }

/-- F.EXT (R111). -/
def extByte (b : Block) : Block := { b with extendedPending := true }

/-- F.TERM: the pending flags are copied into the event and cleared (R112). -/
def termByte (v : Byte) (b : Block) : Block × Event :=
  ({ b with breakPending := false, extendedPending := false }, ⟨v, b.breakPending, b.extendedPending⟩)

/-- The frame-byte operation `v` selects, with its result (R62, R110 to R112). -/
def frameByte (v : Byte) (b : Block) : Block × Option Event :=
  if v = breakPrefix then (breakByte b, none)
  else if v = extPrefix then (extByte b, none)
  else ((termByte v b).1, some (termByte v b).2)

/-- S.STOP: the accumulator is taken and reset, and the frame-byte operation runs (R97). -/
def stopBit (b : Block) : Block × Option Event :=
  frameByte b.byteValue { b with bitIndex := 0, byteValue := 0x00#8, previousClock := false }

/-- `poll_link`: the sampler operation that `(fall, bit_index)` selects (R90 to R92). -/
def pollLink (c d : Bool) (b : Block) : Block × Option Event :=
  if fallingEdge b.previousClock c then
    if b.bitIndex = 0 then (startBit b, none)
    else if b.bitIndex.val ≤ 8 then (dataBit b.bitIndex.val d b, none)
    else if b.bitIndex = 9 then (parityBit b, none)
    else stopBit b
  else (noEdge c b, none)

/-! ## Keyboard State Tracker -/

/-- MOD.PRESS(n) (R131). -/
def modPress (n : Fin 8) (b : Block) : Block :=
  if b.modifiers.getLsbD n then b else { b with modifiers := putBit b.modifiers n true, changed := true }

/-- MOD.RELEASE(n) (R132). -/
def modRelease (n : Fin 8) (b : Block) : Block :=
  if b.modifiers.getLsbD n then { b with modifiers := putBit b.modifiers n false, changed := true } else b

/-- ORD.PRESS(id): the duplicate test first, then the first empty slot (R135). -/
def ordPress (id : Byte) (b : Block) : Block :=
  if holds b.keys id then b
  else match firstSlot (· == 0x00#8) b.keys with
    | none => b
    | some e => { b with keys := b.keys.set e id, changed := true }

/-- ORD.RELEASE(id): the first matching slot is emptied (R136). -/
def ordRelease (id : Byte) (b : Block) : Block :=
  match firstSlot (· == id) b.keys with
  | none => b
  | some m => { b with keys := b.keys.set m 0x00#8, changed := true }

/-- CAPS.PRESS: `ORD.PRESS(ID_CAPSLOCK)` (R133). -/
def capsPress (cfg : Config) (b : Block) : Block := ordPress cfg.idCapsLock b

/-- CAPS.RELEASE: `ORD.RELEASE(ID_CAPSLOCK)` (R134). -/
def capsRelease (cfg : Config) (b : Block) : Block := ordRelease cfg.idCapsLock b

/-- The tracker operation that `is_break` and the identity's class select; none for a reserved identity (R121, R76). -/
def trackIdentity (cfg : Config) (isBreak : Bool) (id : Byte) (b : Block) : Option Block :=
  match cfg.classify id with
  | .unmapped => some b
  | .modifier n => some (if isBreak then modRelease n b else modPress n b)
  | .capsLock => some (if isBreak then capsRelease cfg b else capsPress cfg b)
  | .ordinary => some (if isBreak then ordRelease id b else ordPress id b)
  | .reserved => none

/-- `dispatch(code, is_break, is_extended)` (R121, R122). -/
def dispatch (cfg : Config) (e : Event) (b : Block) : Option Block :=
  trackIdentity cfg e.isBreak (cfg.lookup e.isExtended e.code) b

/-! ## Report boundary and initialisation -/

/-- CLEAR_CHANGED: `changed <- 0` (R153). -/
def clearFlag (b : Block) : Block := { b with changed := false }

/-- The eight bytes of the report (R154, R46). -/
def reportBytes (b : Block) : Vector Byte 8 :=
  #v[b.modifiers, 0x00#8, b.keys[0], b.keys[1], b.keys[2], b.keys[3], b.keys[4], b.keys[5]]

/-- INIT_LINK (R173). -/
def initDecoder (prevClkReset : Bool) (b : Block) : Block :=
  { b with bitIndex := 0, byteValue := 0x00#8, previousClock := prevClkReset, breakPending := false, extendedPending := false }

/-- INIT_STATE (R174). -/
def initKeyboard (b : Block) : Block :=
  { b with modifiers := 0x00#8, keys := #v[0x00#8, 0x00#8, 0x00#8, 0x00#8, 0x00#8, 0x00#8], changed := false }

/-! ## Handing out -/

/-- The result of `poll_link` as the operation's result. -/
def Result.ofEvent : Option Event → Result
  | Option.none => .none
  | Option.some e => .event e

/-- The read of the table entry at the 9-bit address `{is_extended, code}` (R71): no state element changes, the identity is handed out. -/
def readEntry (address : BitVec 9) (s : State) : Answer :=
  .next (s.finish s.block (.identity (s.config.lookup (address.getLsbD 8) (address.setWidth 8))))

/-- One operation after another, in one step. -/
def Answer.andThen (a : Answer) (f : State → Answer) : Answer :=
  match a with
  | .next s => f s
  | .fault r => .fault r
  | .refused r => .refused r

end Sys2Proof.Machine
end

