-- ==== Sys2Proof/Machine/FrameByte.lean ====
section
/-! DEFINITION. The FRAMEBYTE rows (spec/41_prefix_handler.md), each the frame-byte operation alone; S.STOP runs the one its byte selects. -/

namespace Sys2Proof.Machine

/-- F.BREAK: `break_pending <- 1`, no event (R110). -/
def execFBreak (s : State) : Answer := .next (s.finish (breakByte s.block) .none)

/-- F.EXT: `extended_pending <- 1`, no event (R111). -/
def execFExt (s : State) : Answer := .next (s.finish (extByte s.block) .none)

/-- F.TERM: `emit (v, break_pending, extended_pending)`, both flags cleared (R112). -/
def execFTerm (v : Byte) (s : State) : Answer := .next (s.finish (termByte v s.block).1 (.event (termByte v s.block).2))

end Sys2Proof.Machine
end

