-- ==== Sys2Proof/Machine/Mapper.lean ====
section
/-! DEFINITION. T.LOOKUP (spec/42_keycode_mapper.md). -/

namespace Sys2Proof.Machine

/-- T.LOOKUP: the identity is handed out; it writes no state (R120). -/
def execTLookup (e : Bool) (c : Byte) (s : State) : Answer := .next (s.finish s.block (.identity (s.config.lookup e c)))

end Sys2Proof.Machine
end

