-- ==== Sys2Proof/Machine/Report.lean ====
section
/-! DEFINITION. The report boundary (spec/44_report_interface.md), and the block's output ports as functions (R24, R25, R171). -/

namespace Sys2Proof.Machine

/-- GET_MODIFIERS: `return modifiers` (R150). -/
def execGetModifiers (s : State) : Answer := .next (s.finish s.block (.modifiers s.block.modifiers))

/-- GET_KEYS: all six slots of one state (R151). -/
def execGetKeys (s : State) : Answer := .next (s.finish s.block (.keys s.block.keys))

/-- HAS_CHANGED: `return changed`; reading does not clear (R152). -/
def execHasChanged (s : State) : Answer := .next (s.finish s.block (.changed s.block.changed))

/-- REPORT: the derived 8-byte view (R154). -/
def execReport (s : State) : Answer := .next (s.finish s.block (.report (reportBytes s.block)))

/-- CLEAR_CHANGED, the operation: `changed <- 0`, nothing else (R153). In a step it yields to a mutation of the same step (R172): STEP with `l = 1`. -/
def execClearChanged (_c _d : Bool) (s : State) : Answer := .next (s.finish (clearFlag s.block) .none)

/-- `modifiers_o` (R24). -/
def State.modifiersO (s : State) : Byte := s.block.modifiers

/-- `keys_o` (R24). -/
def State.keysO (s : State) : Vector Byte 6 := s.block.keys

/-- `changed_o` (R24). -/
def State.changedO (s : State) : Bool := s.block.changed

/-- The event ports (R25). -/
structure EventPorts where
  evtValid : Bool
  evtCode : Byte
  evtBreak : Bool
  evtExtended : Bool
deriving DecidableEq, Repr

/-- The event ports during a step with the input `w`: functions of the pre-step state and the step's inputs (R25, R171). -/
def Block.eventPorts (w : StepWord) (b : Block) : EventPorts :=
  match (if StepWord.rst w then none else (pollLink (StepWord.clock w) (StepWord.data w) b).2) with
  | some e => ⟨true, e.code, e.isBreak, e.isExtended⟩
  | none => ⟨false, 0x00#8, false, false⟩

end Sys2Proof.Machine
end

