-- ==== Sys2Proof/Machine/Sampler.lean ====
section
/-! DEFINITION. The SAMPLER rows (spec/40_frame_sampler.md). A meaning applies its rule's pseudocode to the state it is given; that an operation runs only where its
selector holds is the step's work (`pollLink`; notes/assumptions/11.md). The selector's fields and an ignored data level are operands without effect. -/

namespace Sys2Proof.Machine

/-- S.NOEDGE with the clock low before and now: `previous_clock <- 0` (R93). -/
def execSNoedgeLow (_i : BitVec 4) (_d : Bool) (s : State) : Answer := .next (s.finish (noEdge false s.block) .none)

/-- S.NOEDGE at a rising edge: `previous_clock <- 1` (R93). -/
def execSNoedgeRising (_i : BitVec 4) (_d : Bool) (s : State) : Answer := .next (s.finish (noEdge true s.block) .none)

/-- S.NOEDGE with the clock high before and now: `previous_clock <- 1` (R93). -/
def execSNoedgeHigh (_i : BitVec 4) (_d : Bool) (s : State) : Answer := .next (s.finish (noEdge true s.block) .none)

/-- S.START; the data level is ignored (R94, R181). -/
def execSStart (_d : Bool) (s : State) : Answer := .next (s.finish (startBit s.block) .none)

/-- S.DATA(1): `byte_value[0] <- d` (R95). -/
def execSData1 (d : Bool) (s : State) : Answer := .next (s.finish (dataBit 1 d s.block) .none)

/-- S.DATA(2): `byte_value[1] <- d` (R95). -/
def execSData2 (d : Bool) (s : State) : Answer := .next (s.finish (dataBit 2 d s.block) .none)

/-- S.DATA(3): `byte_value[2] <- d` (R95). -/
def execSData3 (d : Bool) (s : State) : Answer := .next (s.finish (dataBit 3 d s.block) .none)

/-- S.DATA(4): `byte_value[3] <- d` (R95). -/
def execSData4 (d : Bool) (s : State) : Answer := .next (s.finish (dataBit 4 d s.block) .none)

/-- S.DATA(5): `byte_value[4] <- d` (R95). -/
def execSData5 (d : Bool) (s : State) : Answer := .next (s.finish (dataBit 5 d s.block) .none)

/-- S.DATA(6): `byte_value[5] <- d` (R95). -/
def execSData6 (d : Bool) (s : State) : Answer := .next (s.finish (dataBit 6 d s.block) .none)

/-- S.DATA(7): `byte_value[6] <- d` (R95). -/
def execSData7 (d : Bool) (s : State) : Answer := .next (s.finish (dataBit 7 d s.block) .none)

/-- S.DATA(8): `byte_value[7] <- d` (R95). -/
def execSData8 (d : Bool) (s : State) : Answer := .next (s.finish (dataBit 8 d s.block) .none)

/-- S.PARITY; the data level is ignored (R96, R182). -/
def execSParity (_d : Bool) (s : State) : Answer := .next (s.finish (parityBit s.block) .none)

/-- S.STOP with the frame-byte operation it hands over to, whose result is its own (R97; notes/assumptions/12.md); the data level is ignored (R183). -/
def execSStop (_d : Bool) (s : State) : Answer := .next (s.finish (stopBit s.block).1 (Result.ofEvent (stopBit s.block).2))

/-- RESERVED.BIT_INDEX_11: "The spec assigns them no behaviour" (R74). -/
def execReservedBitIndex11 (_p _c _d : Bool) (_s : State) : Answer := .refused (.reservedBitIndex 11)

/-- RESERVED.BIT_INDEX_12: "The spec assigns them no behaviour" (R74). -/
def execReservedBitIndex12 (_p _c _d : Bool) (_s : State) : Answer := .refused (.reservedBitIndex 12)

/-- RESERVED.BIT_INDEX_13: "The spec assigns them no behaviour" (R74). -/
def execReservedBitIndex13 (_p _c _d : Bool) (_s : State) : Answer := .refused (.reservedBitIndex 13)

/-- RESERVED.BIT_INDEX_14: "The spec assigns them no behaviour" (R74). -/
def execReservedBitIndex14 (_p _c _d : Bool) (_s : State) : Answer := .refused (.reservedBitIndex 14)

/-- RESERVED.BIT_INDEX_15: "The spec assigns them no behaviour" (R74). -/
def execReservedBitIndex15 (_p _c _d : Bool) (_s : State) : Answer := .refused (.reservedBitIndex 15)

end Sys2Proof.Machine
end

