-- ==== Sys2Proof/Machine/System.lean ====
section
/-! DEFINITION. STEP, INIT_LINK, INIT_STATE (spec/46_system_step.md). -/

namespace Sys2Proof.Machine

/-- STEP, for a step with rst = 0: the decoder, then the tracker on the event of this step, then the resolution of `changed` with `clr = l` (R170, R172). The
result is the step's event (R171). -/
def execStep (l c d : Bool) (s : State) : Answer :=
  let polled := pollLink c d s.block
  match polled.2 with
  | none => .next (s.finish (settle l polled.1 polled.1) .none)
  | some e =>
    match dispatch s.config e polled.1 with
    | some tracked => .next (s.finish (settle l polled.1 tracked) (.event e))
    | none => .refused (.reservedIdentity (s.config.lookup e.isExtended e.code))

/-- INIT_LINK: the decoder's elements to their reset values; `l`, `c`, `d` are ignored (R173). -/
def execInitLink (_l _c _d : Bool) (s : State) : Answer := .next (s.finish (initDecoder s.config.prevClkReset s.block) .none)

/-- INIT_STATE: the tracker's elements to their reset values; `l`, `c`, `d` are ignored (R174). -/
def execInitState (_l _c _d : Bool) (s : State) : Answer := .next (s.finish (initKeyboard s.block) .none)

end Sys2Proof.Machine
end

