-- ==== Sys2Proof/Machine/TableEntries.lean ====
section
/-! DEFINITION. The 104 TABLE_ENTRY rows: each is the read of one entry of a table, `MemRead` at the row's 9-bit address `{is_extended, code}` (R71, R120, R160, R161).
What is read is the entry of the machine's own configuration; with the default tables it is the row's `identity` (DEDUCED that the row's operation is the read,
notes/assumptions/13.md). -/

namespace Sys2Proof.Machine

/-- PLAIN.F9: `PLAIN_TABLE[0x01]`, 0x42 in the default tables. -/
def execPlainF9 (s : State) : Answer := readEntry 0x001#9 s
/-- PLAIN.F5: `PLAIN_TABLE[0x03]`, 0x3E in the default tables. -/
def execPlainF5 (s : State) : Answer := readEntry 0x003#9 s
/-- PLAIN.F3: `PLAIN_TABLE[0x04]`, 0x3C in the default tables. -/
def execPlainF3 (s : State) : Answer := readEntry 0x004#9 s
/-- PLAIN.F1: `PLAIN_TABLE[0x05]`, 0x3A in the default tables. -/
def execPlainF1 (s : State) : Answer := readEntry 0x005#9 s
/-- PLAIN.F2: `PLAIN_TABLE[0x06]`, 0x3B in the default tables. -/
def execPlainF2 (s : State) : Answer := readEntry 0x006#9 s
/-- PLAIN.F12: `PLAIN_TABLE[0x07]`, 0x45 in the default tables. -/
def execPlainF12 (s : State) : Answer := readEntry 0x007#9 s
/-- PLAIN.F10: `PLAIN_TABLE[0x09]`, 0x43 in the default tables. -/
def execPlainF10 (s : State) : Answer := readEntry 0x009#9 s
/-- PLAIN.F8: `PLAIN_TABLE[0x0A]`, 0x41 in the default tables. -/
def execPlainF8 (s : State) : Answer := readEntry 0x00A#9 s
/-- PLAIN.F6: `PLAIN_TABLE[0x0B]`, 0x3F in the default tables. -/
def execPlainF6 (s : State) : Answer := readEntry 0x00B#9 s
/-- PLAIN.F4: `PLAIN_TABLE[0x0C]`, 0x3D in the default tables. -/
def execPlainF4 (s : State) : Answer := readEntry 0x00C#9 s
/-- PLAIN.Tab: `PLAIN_TABLE[0x0D]`, 0x2B in the default tables. -/
def execPlainTab (s : State) : Answer := readEntry 0x00D#9 s
/-- PLAIN.Grave: `PLAIN_TABLE[0x0E]`, 0x35 in the default tables. -/
def execPlainGrave (s : State) : Answer := readEntry 0x00E#9 s
/-- PLAIN.LeftAlt: `PLAIN_TABLE[0x11]`, 0xE2 in the default tables. -/
def execPlainLeftAlt (s : State) : Answer := readEntry 0x011#9 s
/-- PLAIN.LeftShift: `PLAIN_TABLE[0x12]`, 0xE1 in the default tables. -/
def execPlainLeftShift (s : State) : Answer := readEntry 0x012#9 s
/-- PLAIN.LeftCtrl: `PLAIN_TABLE[0x14]`, 0xE0 in the default tables. -/
def execPlainLeftCtrl (s : State) : Answer := readEntry 0x014#9 s
/-- PLAIN.Q: `PLAIN_TABLE[0x15]`, 0x14 in the default tables. -/
def execPlainQ (s : State) : Answer := readEntry 0x015#9 s
/-- PLAIN.1: `PLAIN_TABLE[0x16]`, 0x1E in the default tables. -/
def execPlain1 (s : State) : Answer := readEntry 0x016#9 s
/-- PLAIN.Z: `PLAIN_TABLE[0x1A]`, 0x1D in the default tables. -/
def execPlainZ (s : State) : Answer := readEntry 0x01A#9 s
/-- PLAIN.S: `PLAIN_TABLE[0x1B]`, 0x16 in the default tables. -/
def execPlainS (s : State) : Answer := readEntry 0x01B#9 s
/-- PLAIN.A: `PLAIN_TABLE[0x1C]`, 0x04 in the default tables. -/
def execPlainA (s : State) : Answer := readEntry 0x01C#9 s
/-- PLAIN.W: `PLAIN_TABLE[0x1D]`, 0x1A in the default tables. -/
def execPlainW (s : State) : Answer := readEntry 0x01D#9 s
/-- PLAIN.2: `PLAIN_TABLE[0x1E]`, 0x1F in the default tables. -/
def execPlain2 (s : State) : Answer := readEntry 0x01E#9 s
/-- PLAIN.C: `PLAIN_TABLE[0x21]`, 0x06 in the default tables. -/
def execPlainC (s : State) : Answer := readEntry 0x021#9 s
/-- PLAIN.X: `PLAIN_TABLE[0x22]`, 0x1B in the default tables. -/
def execPlainX (s : State) : Answer := readEntry 0x022#9 s
/-- PLAIN.D: `PLAIN_TABLE[0x23]`, 0x07 in the default tables. -/
def execPlainD (s : State) : Answer := readEntry 0x023#9 s
/-- PLAIN.E: `PLAIN_TABLE[0x24]`, 0x08 in the default tables. -/
def execPlainE (s : State) : Answer := readEntry 0x024#9 s
/-- PLAIN.4: `PLAIN_TABLE[0x25]`, 0x21 in the default tables. -/
def execPlain4 (s : State) : Answer := readEntry 0x025#9 s
/-- PLAIN.3: `PLAIN_TABLE[0x26]`, 0x20 in the default tables. -/
def execPlain3 (s : State) : Answer := readEntry 0x026#9 s
/-- PLAIN.Space: `PLAIN_TABLE[0x29]`, 0x2C in the default tables. -/
def execPlainSpace (s : State) : Answer := readEntry 0x029#9 s
/-- PLAIN.V: `PLAIN_TABLE[0x2A]`, 0x19 in the default tables. -/
def execPlainV (s : State) : Answer := readEntry 0x02A#9 s
/-- PLAIN.F: `PLAIN_TABLE[0x2B]`, 0x09 in the default tables. -/
def execPlainF (s : State) : Answer := readEntry 0x02B#9 s
/-- PLAIN.T: `PLAIN_TABLE[0x2C]`, 0x17 in the default tables. -/
def execPlainT (s : State) : Answer := readEntry 0x02C#9 s
/-- PLAIN.R: `PLAIN_TABLE[0x2D]`, 0x15 in the default tables. -/
def execPlainR (s : State) : Answer := readEntry 0x02D#9 s
/-- PLAIN.5: `PLAIN_TABLE[0x2E]`, 0x22 in the default tables. -/
def execPlain5 (s : State) : Answer := readEntry 0x02E#9 s
/-- PLAIN.N: `PLAIN_TABLE[0x31]`, 0x11 in the default tables. -/
def execPlainN (s : State) : Answer := readEntry 0x031#9 s
/-- PLAIN.B: `PLAIN_TABLE[0x32]`, 0x05 in the default tables. -/
def execPlainB (s : State) : Answer := readEntry 0x032#9 s
/-- PLAIN.H: `PLAIN_TABLE[0x33]`, 0x0B in the default tables. -/
def execPlainH (s : State) : Answer := readEntry 0x033#9 s
/-- PLAIN.G: `PLAIN_TABLE[0x34]`, 0x0A in the default tables. -/
def execPlainG (s : State) : Answer := readEntry 0x034#9 s
/-- PLAIN.Y: `PLAIN_TABLE[0x35]`, 0x1C in the default tables. -/
def execPlainY (s : State) : Answer := readEntry 0x035#9 s
/-- PLAIN.6: `PLAIN_TABLE[0x36]`, 0x23 in the default tables. -/
def execPlain6 (s : State) : Answer := readEntry 0x036#9 s
/-- PLAIN.M: `PLAIN_TABLE[0x3A]`, 0x10 in the default tables. -/
def execPlainM (s : State) : Answer := readEntry 0x03A#9 s
/-- PLAIN.J: `PLAIN_TABLE[0x3B]`, 0x0D in the default tables. -/
def execPlainJ (s : State) : Answer := readEntry 0x03B#9 s
/-- PLAIN.U: `PLAIN_TABLE[0x3C]`, 0x18 in the default tables. -/
def execPlainU (s : State) : Answer := readEntry 0x03C#9 s
/-- PLAIN.7: `PLAIN_TABLE[0x3D]`, 0x24 in the default tables. -/
def execPlain7 (s : State) : Answer := readEntry 0x03D#9 s
/-- PLAIN.8: `PLAIN_TABLE[0x3E]`, 0x25 in the default tables. -/
def execPlain8 (s : State) : Answer := readEntry 0x03E#9 s
/-- PLAIN.Comma: `PLAIN_TABLE[0x41]`, 0x36 in the default tables. -/
def execPlainComma (s : State) : Answer := readEntry 0x041#9 s
/-- PLAIN.K: `PLAIN_TABLE[0x42]`, 0x0E in the default tables. -/
def execPlainK (s : State) : Answer := readEntry 0x042#9 s
/-- PLAIN.I: `PLAIN_TABLE[0x43]`, 0x0C in the default tables. -/
def execPlainI (s : State) : Answer := readEntry 0x043#9 s
/-- PLAIN.O: `PLAIN_TABLE[0x44]`, 0x12 in the default tables. -/
def execPlainO (s : State) : Answer := readEntry 0x044#9 s
/-- PLAIN.0: `PLAIN_TABLE[0x45]`, 0x27 in the default tables. -/
def execPlain0 (s : State) : Answer := readEntry 0x045#9 s
/-- PLAIN.9: `PLAIN_TABLE[0x46]`, 0x26 in the default tables. -/
def execPlain9 (s : State) : Answer := readEntry 0x046#9 s
/-- PLAIN.Period: `PLAIN_TABLE[0x49]`, 0x37 in the default tables. -/
def execPlainPeriod (s : State) : Answer := readEntry 0x049#9 s
/-- PLAIN.Slash: `PLAIN_TABLE[0x4A]`, 0x38 in the default tables. -/
def execPlainSlash (s : State) : Answer := readEntry 0x04A#9 s
/-- PLAIN.L: `PLAIN_TABLE[0x4B]`, 0x0F in the default tables. -/
def execPlainL (s : State) : Answer := readEntry 0x04B#9 s
/-- PLAIN.Semicolon: `PLAIN_TABLE[0x4C]`, 0x33 in the default tables. -/
def execPlainSemicolon (s : State) : Answer := readEntry 0x04C#9 s
/-- PLAIN.P: `PLAIN_TABLE[0x4D]`, 0x13 in the default tables. -/
def execPlainP (s : State) : Answer := readEntry 0x04D#9 s
/-- PLAIN.Minus: `PLAIN_TABLE[0x4E]`, 0x2D in the default tables. -/
def execPlainMinus (s : State) : Answer := readEntry 0x04E#9 s
/-- PLAIN.Apostrophe: `PLAIN_TABLE[0x52]`, 0x34 in the default tables. -/
def execPlainApostrophe (s : State) : Answer := readEntry 0x052#9 s
/-- PLAIN.LeftBracket: `PLAIN_TABLE[0x54]`, 0x2F in the default tables. -/
def execPlainLeftBracket (s : State) : Answer := readEntry 0x054#9 s
/-- PLAIN.Equal: `PLAIN_TABLE[0x55]`, 0x2E in the default tables. -/
def execPlainEqual (s : State) : Answer := readEntry 0x055#9 s
/-- PLAIN.CapsLock: `PLAIN_TABLE[0x58]`, 0xE8 in the default tables. -/
def execPlainCapsLock (s : State) : Answer := readEntry 0x058#9 s
/-- PLAIN.RightShift: `PLAIN_TABLE[0x59]`, 0xE5 in the default tables. -/
def execPlainRightShift (s : State) : Answer := readEntry 0x059#9 s
/-- PLAIN.Enter: `PLAIN_TABLE[0x5A]`, 0x28 in the default tables. -/
def execPlainEnter (s : State) : Answer := readEntry 0x05A#9 s
/-- PLAIN.RightBracket: `PLAIN_TABLE[0x5B]`, 0x30 in the default tables. -/
def execPlainRightBracket (s : State) : Answer := readEntry 0x05B#9 s
/-- PLAIN.Backslash: `PLAIN_TABLE[0x5D]`, 0x31 in the default tables. -/
def execPlainBackslash (s : State) : Answer := readEntry 0x05D#9 s
/-- PLAIN.NonUSBackslash: `PLAIN_TABLE[0x61]`, 0x64 in the default tables. -/
def execPlainNonUSBackslash (s : State) : Answer := readEntry 0x061#9 s
/-- PLAIN.Backspace: `PLAIN_TABLE[0x66]`, 0x2A in the default tables. -/
def execPlainBackspace (s : State) : Answer := readEntry 0x066#9 s
/-- PLAIN.Keypad1: `PLAIN_TABLE[0x69]`, 0x59 in the default tables. -/
def execPlainKeypad1 (s : State) : Answer := readEntry 0x069#9 s
/-- PLAIN.Keypad4: `PLAIN_TABLE[0x6B]`, 0x5C in the default tables. -/
def execPlainKeypad4 (s : State) : Answer := readEntry 0x06B#9 s
/-- PLAIN.Keypad7: `PLAIN_TABLE[0x6C]`, 0x5F in the default tables. -/
def execPlainKeypad7 (s : State) : Answer := readEntry 0x06C#9 s
/-- PLAIN.Keypad0: `PLAIN_TABLE[0x70]`, 0x62 in the default tables. -/
def execPlainKeypad0 (s : State) : Answer := readEntry 0x070#9 s
/-- PLAIN.KeypadPeriod: `PLAIN_TABLE[0x71]`, 0x63 in the default tables. -/
def execPlainKeypadPeriod (s : State) : Answer := readEntry 0x071#9 s
/-- PLAIN.Keypad2: `PLAIN_TABLE[0x72]`, 0x5A in the default tables. -/
def execPlainKeypad2 (s : State) : Answer := readEntry 0x072#9 s
/-- PLAIN.Keypad5: `PLAIN_TABLE[0x73]`, 0x5D in the default tables. -/
def execPlainKeypad5 (s : State) : Answer := readEntry 0x073#9 s
/-- PLAIN.Keypad6: `PLAIN_TABLE[0x74]`, 0x5E in the default tables. -/
def execPlainKeypad6 (s : State) : Answer := readEntry 0x074#9 s
/-- PLAIN.Keypad8: `PLAIN_TABLE[0x75]`, 0x60 in the default tables. -/
def execPlainKeypad8 (s : State) : Answer := readEntry 0x075#9 s
/-- PLAIN.Escape: `PLAIN_TABLE[0x76]`, 0x29 in the default tables. -/
def execPlainEscape (s : State) : Answer := readEntry 0x076#9 s
/-- PLAIN.NumLock: `PLAIN_TABLE[0x77]`, 0x53 in the default tables. -/
def execPlainNumLock (s : State) : Answer := readEntry 0x077#9 s
/-- PLAIN.F11: `PLAIN_TABLE[0x78]`, 0x44 in the default tables. -/
def execPlainF11 (s : State) : Answer := readEntry 0x078#9 s
/-- PLAIN.KeypadPlus: `PLAIN_TABLE[0x79]`, 0x57 in the default tables. -/
def execPlainKeypadPlus (s : State) : Answer := readEntry 0x079#9 s
/-- PLAIN.Keypad3: `PLAIN_TABLE[0x7A]`, 0x5B in the default tables. -/
def execPlainKeypad3 (s : State) : Answer := readEntry 0x07A#9 s
/-- PLAIN.KeypadMinus: `PLAIN_TABLE[0x7B]`, 0x56 in the default tables. -/
def execPlainKeypadMinus (s : State) : Answer := readEntry 0x07B#9 s
/-- PLAIN.KeypadMultiply: `PLAIN_TABLE[0x7C]`, 0x55 in the default tables. -/
def execPlainKeypadMultiply (s : State) : Answer := readEntry 0x07C#9 s
/-- PLAIN.Keypad9: `PLAIN_TABLE[0x7D]`, 0x61 in the default tables. -/
def execPlainKeypad9 (s : State) : Answer := readEntry 0x07D#9 s
/-- PLAIN.ScrollLock: `PLAIN_TABLE[0x7E]`, 0x47 in the default tables. -/
def execPlainScrollLock (s : State) : Answer := readEntry 0x07E#9 s
/-- PLAIN.F7: `PLAIN_TABLE[0x83]`, 0x40 in the default tables. -/
def execPlainF7 (s : State) : Answer := readEntry 0x083#9 s
/-- EXT.RightAlt: `EXT_TABLE[0x11]`, 0xE6 in the default tables. -/
def execExtRightAlt (s : State) : Answer := readEntry 0x111#9 s
/-- EXT.RightCtrl: `EXT_TABLE[0x14]`, 0xE4 in the default tables. -/
def execExtRightCtrl (s : State) : Answer := readEntry 0x114#9 s
/-- EXT.LeftGUI: `EXT_TABLE[0x1F]`, 0xE3 in the default tables. -/
def execExtLeftGUI (s : State) : Answer := readEntry 0x11F#9 s
/-- EXT.RightGUI: `EXT_TABLE[0x27]`, 0xE7 in the default tables. -/
def execExtRightGUI (s : State) : Answer := readEntry 0x127#9 s
/-- EXT.Application: `EXT_TABLE[0x2F]`, 0x65 in the default tables. -/
def execExtApplication (s : State) : Answer := readEntry 0x12F#9 s
/-- EXT.KeypadDivide: `EXT_TABLE[0x4A]`, 0x54 in the default tables. -/
def execExtKeypadDivide (s : State) : Answer := readEntry 0x14A#9 s
/-- EXT.KeypadEnter: `EXT_TABLE[0x5A]`, 0x58 in the default tables. -/
def execExtKeypadEnter (s : State) : Answer := readEntry 0x15A#9 s
/-- EXT.End: `EXT_TABLE[0x69]`, 0x4D in the default tables. -/
def execExtEnd (s : State) : Answer := readEntry 0x169#9 s
/-- EXT.LeftArrow: `EXT_TABLE[0x6B]`, 0x50 in the default tables. -/
def execExtLeftArrow (s : State) : Answer := readEntry 0x16B#9 s
/-- EXT.Home: `EXT_TABLE[0x6C]`, 0x4A in the default tables. -/
def execExtHome (s : State) : Answer := readEntry 0x16C#9 s
/-- EXT.Insert: `EXT_TABLE[0x70]`, 0x49 in the default tables. -/
def execExtInsert (s : State) : Answer := readEntry 0x170#9 s
/-- EXT.Delete: `EXT_TABLE[0x71]`, 0x4C in the default tables. -/
def execExtDelete (s : State) : Answer := readEntry 0x171#9 s
/-- EXT.DownArrow: `EXT_TABLE[0x72]`, 0x51 in the default tables. -/
def execExtDownArrow (s : State) : Answer := readEntry 0x172#9 s
/-- EXT.RightArrow: `EXT_TABLE[0x74]`, 0x4F in the default tables. -/
def execExtRightArrow (s : State) : Answer := readEntry 0x174#9 s
/-- EXT.UpArrow: `EXT_TABLE[0x75]`, 0x52 in the default tables. -/
def execExtUpArrow (s : State) : Answer := readEntry 0x175#9 s
/-- EXT.PageDown: `EXT_TABLE[0x7A]`, 0x4E in the default tables. -/
def execExtPageDown (s : State) : Answer := readEntry 0x17A#9 s
/-- EXT.PrintScreen: `EXT_TABLE[0x7C]`, 0x46 in the default tables. -/
def execExtPrintScreen (s : State) : Answer := readEntry 0x17C#9 s
/-- EXT.PageUp: `EXT_TABLE[0x7D]`, 0x4B in the default tables. -/
def execExtPageUp (s : State) : Answer := readEntry 0x17D#9 s

end Sys2Proof.Machine
end

