-- ==== Sys2Proof/Machine/Tracker.lean ====
section
/-! DEFINITION. The IDENT rows (spec/43_key_register_file.md). -/

namespace Sys2Proof.Machine

/-- K.UNMAPPED: nothing (R130). -/
def execKUnmapped (_b : Bool) (s : State) : Answer := .next (s.finish s.block .none)

/-- MOD.PRESS(n) (R131). -/
def execModPress (n : Fin 8) (s : State) : Answer := .next (s.finish (modPress n s.block) .none)

/-- MOD.RELEASE(n) (R132). -/
def execModRelease (n : Fin 8) (s : State) : Answer := .next (s.finish (modRelease n s.block) .none)

/-- CAPS.PRESS (R133). -/
def execCapsPress (s : State) : Answer := .next (s.finish (capsPress s.config s.block) .none)

/-- CAPS.RELEASE (R134). -/
def execCapsRelease (s : State) : Answer := .next (s.finish (capsRelease s.config s.block) .none)

/-- ORD.PRESS(id) (R135). -/
def execOrdPress (id : Byte) (s : State) : Answer := .next (s.finish (ordPress id s.block) .none)

/-- ORD.RELEASE(id) (R136). -/
def execOrdRelease (id : Byte) (s : State) : Answer := .next (s.finish (ordRelease id s.block) .none)

/-- RESERVED.IDENT: "The tracker has no rule for them; a model refuses the table" (R76). -/
def execReservedIdent (_b : Bool) (id : Byte) (_s : State) : Answer := .refused (.reservedIdentity id)

end Sys2Proof.Machine
end

