-- ==== Sys2Proof/Syntax.lean ====
section
/-! DEFINITION. The block's closed set of operations as syntax (R3): one constructor of `Instr` per row of spec/opcode_table.json (143 rows;
S.NOEDGE has three), and the operation words they are encoded in, a format of the table (spec/30_encoding.md section 3, R73) and its
selector bits. -/

namespace Sys2Proof

/-- The formats of the operation map (spec/30_encoding.md section 3): what a selector word is a selector of. -/
inductive Format where
  | sampler | frameByte | tableAddr | ident | stepWord | output | tableEntry
deriving DecidableEq, Repr

/-- How many bits a word of the format has. SAMPLER has its 6 selector bits `p c iiii` and, at bit 6, the operand `d`, which the table
keeps outside the selector; OUTPUT, which has no selector in the table, has a 2-bit port number (DESIGN CHOICE, notes/assumptions/9.md). -/
def Format.width : Format → Nat
  | .sampler => 7
  | .frameByte => 8
  | .tableAddr => 9
  | .ident => 9
  | .stepWord => 4
  | .output => 2
  | .tableEntry => 9

/-- An operation word: a format and its bits, bit 0 least significant, zero above the format's width. -/
structure OpWord where
  format : Format
  bits : BitVec 9
deriving DecidableEq, Repr

/-- Why a word is no operation. -/
inductive Reject where
  /-- A bit above the format's width is 1. -/
  | bitsAboveFormat (f : Format)
  /-- A TABLE_ENTRY address that is no row of the table (a zero entry of the default tables). -/
  | noTableEntry (address : Nat)
deriving DecidableEq, Repr

/-- The operations, one constructor per row of spec/opcode_table.json. `i` is the selector's `bit_index` field, `p` its
`previous_clock`, `c` the clock level, `d` the data level, `l` the `clear_changed` bit, `b` `is_break`, `e` `is_extended`. -/
inductive Instr where
  /-- S.NOEDGE, row `0 0 iiii`: the clock was low and is low (R93). -/
  | sNoedgeLow (i : BitVec 4) (d : Bool)
  /-- S.NOEDGE, row `0 1 iiii`: a rising edge (R93). -/
  | sNoedgeRising (i : BitVec 4) (d : Bool)
  /-- S.NOEDGE, row `1 1 iiii`: the clock was high and is high (R93). -/
  | sNoedgeHigh (i : BitVec 4) (d : Bool)
  /-- S.START, `1 0 0000` (R94). -/
  | sStart (d : Bool)
  /-- S.DATA(1), `1 0 0001` (R95). -/
  | sData1 (d : Bool)
  /-- S.DATA(2), `1 0 0010` (R95). -/
  | sData2 (d : Bool)
  /-- S.DATA(3), `1 0 0011` (R95). -/
  | sData3 (d : Bool)
  /-- S.DATA(4), `1 0 0100` (R95). -/
  | sData4 (d : Bool)
  /-- S.DATA(5), `1 0 0101` (R95). -/
  | sData5 (d : Bool)
  /-- S.DATA(6), `1 0 0110` (R95). -/
  | sData6 (d : Bool)
  /-- S.DATA(7), `1 0 0111` (R95). -/
  | sData7 (d : Bool)
  /-- S.DATA(8), `1 0 1000` (R95). -/
  | sData8 (d : Bool)
  /-- S.PARITY, `1 0 1001` (R96). -/
  | sParity (d : Bool)
  /-- S.STOP, `1 0 1010` (R97). -/
  | sStop (d : Bool)
  /-- the unreachable selector `p c 1011`, no behaviour assigned (R74). -/
  | reservedBitIndex11 (p : Bool) (c : Bool) (d : Bool)
  /-- the unreachable selector `p c 1100`, no behaviour assigned (R74). -/
  | reservedBitIndex12 (p : Bool) (c : Bool) (d : Bool)
  /-- the unreachable selector `p c 1101`, no behaviour assigned (R74). -/
  | reservedBitIndex13 (p : Bool) (c : Bool) (d : Bool)
  /-- the unreachable selector `p c 1110`, no behaviour assigned (R74). -/
  | reservedBitIndex14 (p : Bool) (c : Bool) (d : Bool)
  /-- the unreachable selector `p c 1111`, no behaviour assigned (R74). -/
  | reservedBitIndex15 (p : Bool) (c : Bool) (d : Bool)
  /-- F.BREAK, frame byte 0xF0 (R110). -/
  | fBreak
  /-- F.EXT, frame byte 0xE0 (R111). -/
  | fExt
  /-- F.TERM, any other frame byte (R112). -/
  | fTerm (v : Byte)
  /-- T.LOOKUP at the address `{is_extended, code}` (R120). -/
  | tLookup (e : Bool) (c : Byte)
  /-- K.UNMAPPED, identity 0, either `is_break` (R130). -/
  | kUnmapped (b : Bool)
  /-- MOD.PRESS(n) (R131). -/
  | modPress (n : Fin 8)
  /-- MOD.RELEASE(n) (R132). -/
  | modRelease (n : Fin 8)
  /-- CAPS.PRESS (R133). -/
  | capsPress
  /-- CAPS.RELEASE (R134). -/
  | capsRelease
  /-- ORD.PRESS(id) (R135). -/
  | ordPress (id : Byte)
  /-- ORD.RELEASE(id) (R136). -/
  | ordRelease (id : Byte)
  /-- an identity of the reserved range, no rule (R76). -/
  | reservedIdent (b : Bool) (id : Byte)
  /-- STEP, `0 l c d` (R170). -/
  | step (l : Bool) (c : Bool) (d : Bool)
  /-- CLEAR_CHANGED, `0 1 c d` (R153). -/
  | clearChanged (c : Bool) (d : Bool)
  /-- INIT_LINK, `1 l c d` (R173). -/
  | initLink (l : Bool) (c : Bool) (d : Bool)
  /-- INIT_STATE, `1 l c d`, the same words as INIT_LINK (R174). -/
  | initState (l : Bool) (c : Bool) (d : Bool)
  /-- GET_MODIFIERS (R150). -/
  | getModifiers
  /-- GET_KEYS (R151). -/
  | getKeys
  /-- HAS_CHANGED (R152). -/
  | hasChanged
  /-- REPORT (R154). -/
  | report
  -- The 86 rows PLAIN.*: the non-zero entries of the default PLAIN_TABLE (R160).
  | plainF9 | plainF5 | plainF3 | plainF1 | plainF2 | plainF12 | plainF10 | plainF8
  | plainF6 | plainF4 | plainTab | plainGrave | plainLeftAlt | plainLeftShift | plainLeftCtrl | plainQ
  | plain1 | plainZ | plainS | plainA | plainW | plain2 | plainC | plainX
  | plainD | plainE | plain4 | plain3 | plainSpace | plainV | plainF | plainT
  | plainR | plain5 | plainN | plainB | plainH | plainG | plainY | plain6
  | plainM | plainJ | plainU | plain7 | plain8 | plainComma | plainK | plainI
  | plainO | plain0 | plain9 | plainPeriod | plainSlash | plainL | plainSemicolon | plainP
  | plainMinus | plainApostrophe | plainLeftBracket | plainEqual | plainCapsLock | plainRightShift | plainEnter | plainRightBracket
  | plainBackslash | plainNonUSBackslash | plainBackspace | plainKeypad1 | plainKeypad4 | plainKeypad7 | plainKeypad0 | plainKeypadPeriod
  | plainKeypad2 | plainKeypad5 | plainKeypad6 | plainKeypad8 | plainEscape | plainNumLock | plainF11 | plainKeypadPlus
  | plainKeypad3 | plainKeypadMinus | plainKeypadMultiply | plainKeypad9 | plainScrollLock | plainF7
  -- The 18 rows EXT.*: the non-zero entries of the default EXT_TABLE (R161).
  | extRightAlt | extRightCtrl | extLeftGUI | extRightGUI | extApplication | extKeypadDivide | extKeypadEnter | extEnd
  | extLeftArrow | extHome | extInsert | extDelete | extDownArrow | extRightArrow | extUpArrow | extPageDown
  | extPrintScreen | extPageUp
deriving DecidableEq, Repr

end Sys2Proof
end

