-- ==== Sys2Proof/Machine/Dispatch.lean ====
section
/-! DEFINITION. The dispatch of an operation to its meaning, one arm per constructor of `Instr`. -/

namespace Sys2Proof.Machine

def exec (i : Instr) (s : State) : Host.Outcome State Fault Refusal :=
  match i with
  | .sNoedgeLow idx d => Sys2Proof.Machine.execSNoedgeLow idx d s
  | .sNoedgeRising idx d => Sys2Proof.Machine.execSNoedgeRising idx d s
  | .sNoedgeHigh idx d => Sys2Proof.Machine.execSNoedgeHigh idx d s
  | .sStart d => Sys2Proof.Machine.execSStart d s
  | .sData1 d => Sys2Proof.Machine.execSData1 d s
  | .sData2 d => Sys2Proof.Machine.execSData2 d s
  | .sData3 d => Sys2Proof.Machine.execSData3 d s
  | .sData4 d => Sys2Proof.Machine.execSData4 d s
  | .sData5 d => Sys2Proof.Machine.execSData5 d s
  | .sData6 d => Sys2Proof.Machine.execSData6 d s
  | .sData7 d => Sys2Proof.Machine.execSData7 d s
  | .sData8 d => Sys2Proof.Machine.execSData8 d s
  | .sParity d => Sys2Proof.Machine.execSParity d s
  | .sStop d => Sys2Proof.Machine.execSStop d s
  | .reservedBitIndex11 p c d => Sys2Proof.Machine.execReservedBitIndex11 p c d s
  | .reservedBitIndex12 p c d => Sys2Proof.Machine.execReservedBitIndex12 p c d s
  | .reservedBitIndex13 p c d => Sys2Proof.Machine.execReservedBitIndex13 p c d s
  | .reservedBitIndex14 p c d => Sys2Proof.Machine.execReservedBitIndex14 p c d s
  | .reservedBitIndex15 p c d => Sys2Proof.Machine.execReservedBitIndex15 p c d s
  | .fBreak => Sys2Proof.Machine.execFBreak s
  | .fExt => Sys2Proof.Machine.execFExt s
  | .fTerm v => Sys2Proof.Machine.execFTerm v s
  | .tLookup e c => Sys2Proof.Machine.execTLookup e c s
  | .kUnmapped b => Sys2Proof.Machine.execKUnmapped b s
  | .modPress n => Sys2Proof.Machine.execModPress n s
  | .modRelease n => Sys2Proof.Machine.execModRelease n s
  | .capsPress => Sys2Proof.Machine.execCapsPress s
  | .capsRelease => Sys2Proof.Machine.execCapsRelease s
  | .ordPress id => Sys2Proof.Machine.execOrdPress id s
  | .ordRelease id => Sys2Proof.Machine.execOrdRelease id s
  | .reservedIdent b id => Sys2Proof.Machine.execReservedIdent b id s
  | .step l c d => Sys2Proof.Machine.execStep l c d s
  | .clearChanged c d => Sys2Proof.Machine.execClearChanged c d s
  | .initLink l c d => Sys2Proof.Machine.execInitLink l c d s
  | .initState l c d => Sys2Proof.Machine.execInitState l c d s
  | .getModifiers => Sys2Proof.Machine.execGetModifiers s
  | .getKeys => Sys2Proof.Machine.execGetKeys s
  | .hasChanged => Sys2Proof.Machine.execHasChanged s
  | .report => Sys2Proof.Machine.execReport s
  | .plainF9 => Sys2Proof.Machine.execPlainF9 s
  | .plainF5 => Sys2Proof.Machine.execPlainF5 s
  | .plainF3 => Sys2Proof.Machine.execPlainF3 s
  | .plainF1 => Sys2Proof.Machine.execPlainF1 s
  | .plainF2 => Sys2Proof.Machine.execPlainF2 s
  | .plainF12 => Sys2Proof.Machine.execPlainF12 s
  | .plainF10 => Sys2Proof.Machine.execPlainF10 s
  | .plainF8 => Sys2Proof.Machine.execPlainF8 s
  | .plainF6 => Sys2Proof.Machine.execPlainF6 s
  | .plainF4 => Sys2Proof.Machine.execPlainF4 s
  | .plainTab => Sys2Proof.Machine.execPlainTab s
  | .plainGrave => Sys2Proof.Machine.execPlainGrave s
  | .plainLeftAlt => Sys2Proof.Machine.execPlainLeftAlt s
  | .plainLeftShift => Sys2Proof.Machine.execPlainLeftShift s
  | .plainLeftCtrl => Sys2Proof.Machine.execPlainLeftCtrl s
  | .plainQ => Sys2Proof.Machine.execPlainQ s
  | .plain1 => Sys2Proof.Machine.execPlain1 s
  | .plainZ => Sys2Proof.Machine.execPlainZ s
  | .plainS => Sys2Proof.Machine.execPlainS s
  | .plainA => Sys2Proof.Machine.execPlainA s
  | .plainW => Sys2Proof.Machine.execPlainW s
  | .plain2 => Sys2Proof.Machine.execPlain2 s
  | .plainC => Sys2Proof.Machine.execPlainC s
  | .plainX => Sys2Proof.Machine.execPlainX s
  | .plainD => Sys2Proof.Machine.execPlainD s
  | .plainE => Sys2Proof.Machine.execPlainE s
  | .plain4 => Sys2Proof.Machine.execPlain4 s
  | .plain3 => Sys2Proof.Machine.execPlain3 s
  | .plainSpace => Sys2Proof.Machine.execPlainSpace s
  | .plainV => Sys2Proof.Machine.execPlainV s
  | .plainF => Sys2Proof.Machine.execPlainF s
  | .plainT => Sys2Proof.Machine.execPlainT s
  | .plainR => Sys2Proof.Machine.execPlainR s
  | .plain5 => Sys2Proof.Machine.execPlain5 s
  | .plainN => Sys2Proof.Machine.execPlainN s
  | .plainB => Sys2Proof.Machine.execPlainB s
  | .plainH => Sys2Proof.Machine.execPlainH s
  | .plainG => Sys2Proof.Machine.execPlainG s
  | .plainY => Sys2Proof.Machine.execPlainY s
  | .plain6 => Sys2Proof.Machine.execPlain6 s
  | .plainM => Sys2Proof.Machine.execPlainM s
  | .plainJ => Sys2Proof.Machine.execPlainJ s
  | .plainU => Sys2Proof.Machine.execPlainU s
  | .plain7 => Sys2Proof.Machine.execPlain7 s
  | .plain8 => Sys2Proof.Machine.execPlain8 s
  | .plainComma => Sys2Proof.Machine.execPlainComma s
  | .plainK => Sys2Proof.Machine.execPlainK s
  | .plainI => Sys2Proof.Machine.execPlainI s
  | .plainO => Sys2Proof.Machine.execPlainO s
  | .plain0 => Sys2Proof.Machine.execPlain0 s
  | .plain9 => Sys2Proof.Machine.execPlain9 s
  | .plainPeriod => Sys2Proof.Machine.execPlainPeriod s
  | .plainSlash => Sys2Proof.Machine.execPlainSlash s
  | .plainL => Sys2Proof.Machine.execPlainL s
  | .plainSemicolon => Sys2Proof.Machine.execPlainSemicolon s
  | .plainP => Sys2Proof.Machine.execPlainP s
  | .plainMinus => Sys2Proof.Machine.execPlainMinus s
  | .plainApostrophe => Sys2Proof.Machine.execPlainApostrophe s
  | .plainLeftBracket => Sys2Proof.Machine.execPlainLeftBracket s
  | .plainEqual => Sys2Proof.Machine.execPlainEqual s
  | .plainCapsLock => Sys2Proof.Machine.execPlainCapsLock s
  | .plainRightShift => Sys2Proof.Machine.execPlainRightShift s
  | .plainEnter => Sys2Proof.Machine.execPlainEnter s
  | .plainRightBracket => Sys2Proof.Machine.execPlainRightBracket s
  | .plainBackslash => Sys2Proof.Machine.execPlainBackslash s
  | .plainNonUSBackslash => Sys2Proof.Machine.execPlainNonUSBackslash s
  | .plainBackspace => Sys2Proof.Machine.execPlainBackspace s
  | .plainKeypad1 => Sys2Proof.Machine.execPlainKeypad1 s
  | .plainKeypad4 => Sys2Proof.Machine.execPlainKeypad4 s
  | .plainKeypad7 => Sys2Proof.Machine.execPlainKeypad7 s
  | .plainKeypad0 => Sys2Proof.Machine.execPlainKeypad0 s
  | .plainKeypadPeriod => Sys2Proof.Machine.execPlainKeypadPeriod s
  | .plainKeypad2 => Sys2Proof.Machine.execPlainKeypad2 s
  | .plainKeypad5 => Sys2Proof.Machine.execPlainKeypad5 s
  | .plainKeypad6 => Sys2Proof.Machine.execPlainKeypad6 s
  | .plainKeypad8 => Sys2Proof.Machine.execPlainKeypad8 s
  | .plainEscape => Sys2Proof.Machine.execPlainEscape s
  | .plainNumLock => Sys2Proof.Machine.execPlainNumLock s
  | .plainF11 => Sys2Proof.Machine.execPlainF11 s
  | .plainKeypadPlus => Sys2Proof.Machine.execPlainKeypadPlus s
  | .plainKeypad3 => Sys2Proof.Machine.execPlainKeypad3 s
  | .plainKeypadMinus => Sys2Proof.Machine.execPlainKeypadMinus s
  | .plainKeypadMultiply => Sys2Proof.Machine.execPlainKeypadMultiply s
  | .plainKeypad9 => Sys2Proof.Machine.execPlainKeypad9 s
  | .plainScrollLock => Sys2Proof.Machine.execPlainScrollLock s
  | .plainF7 => Sys2Proof.Machine.execPlainF7 s
  | .extRightAlt => Sys2Proof.Machine.execExtRightAlt s
  | .extRightCtrl => Sys2Proof.Machine.execExtRightCtrl s
  | .extLeftGUI => Sys2Proof.Machine.execExtLeftGUI s
  | .extRightGUI => Sys2Proof.Machine.execExtRightGUI s
  | .extApplication => Sys2Proof.Machine.execExtApplication s
  | .extKeypadDivide => Sys2Proof.Machine.execExtKeypadDivide s
  | .extKeypadEnter => Sys2Proof.Machine.execExtKeypadEnter s
  | .extEnd => Sys2Proof.Machine.execExtEnd s
  | .extLeftArrow => Sys2Proof.Machine.execExtLeftArrow s
  | .extHome => Sys2Proof.Machine.execExtHome s
  | .extInsert => Sys2Proof.Machine.execExtInsert s
  | .extDelete => Sys2Proof.Machine.execExtDelete s
  | .extDownArrow => Sys2Proof.Machine.execExtDownArrow s
  | .extRightArrow => Sys2Proof.Machine.execExtRightArrow s
  | .extUpArrow => Sys2Proof.Machine.execExtUpArrow s
  | .extPageDown => Sys2Proof.Machine.execExtPageDown s
  | .extPrintScreen => Sys2Proof.Machine.execExtPrintScreen s
  | .extPageUp => Sys2Proof.Machine.execExtPageUp s

end Sys2Proof.Machine
end

