-- ==== Sys2Proof/WellFormed.lean ====
section
/-! DEFINITION. When an `Instr` is a word of the operation map: its operand fields stand in the ranges the table's rows give
(spec/opcode_table.json `note` and `range`, with the default sentinel values the table is written in). -/

namespace Sys2Proof

/-- `bit_index` of an S.NOEDGE selector is in 0..10 ("any bit_index 0..10"; 11..15 are the RESERVED rows, R74). -/
def bitIndexField (i : BitVec 4) : Bool := i.toNat ≤ 10

/-- A terminal scancode is neither 0xF0 nor 0xE0 (R62). -/
def terminalField (v : Byte) : Bool := v ≠ 0xF0#8 && v ≠ 0xE0#8

/-- The ordinary range of the IDENT rows, 0x01..0xDF. -/
def ordinaryField (id : Byte) : Bool := 0x01 ≤ id.toNat && id.toNat ≤ 0xDF

/-- The reserved range of the IDENT rows, 0xE9..0xFF. -/
def reservedField (id : Byte) : Bool := 0xE9 ≤ id.toNat

/-- The operands stand in the row's ranges. -/
def Instr.wf : Instr → Bool
  | .sNoedgeLow i _ | .sNoedgeRising i _ | .sNoedgeHigh i _ => bitIndexField i
  | .fTerm v => terminalField v
  | .ordPress id | .ordRelease id => ordinaryField id
  | .reservedIdent _ id => reservedField id
  | .sStart _ | .sData1 _ | .sData2 _ | .sData3 _ | .sData4 _ | .sData5 _ | .sData6 _ | .sData7 _
  | .sData8 _ | .sParity _ | .sStop _ | .reservedBitIndex11 _ _ _ | .reservedBitIndex12 _ _ _ | .reservedBitIndex13 _ _ _ | .reservedBitIndex14 _ _ _ | .reservedBitIndex15 _ _ _
  | .fBreak | .fExt | .tLookup _ _ | .kUnmapped _ | .modPress _ | .modRelease _ | .capsPress | .capsRelease
  | .step _ _ _ | .clearChanged _ _ | .initLink _ _ _ | .initState _ _ _ | .getModifiers | .getKeys | .hasChanged | .report
  | .plainF9 | .plainF5 | .plainF3 | .plainF1 | .plainF2 | .plainF12 | .plainF10 | .plainF8
  | .plainF6 | .plainF4 | .plainTab | .plainGrave | .plainLeftAlt | .plainLeftShift | .plainLeftCtrl | .plainQ
  | .plain1 | .plainZ | .plainS | .plainA | .plainW | .plain2 | .plainC | .plainX
  | .plainD | .plainE | .plain4 | .plain3 | .plainSpace | .plainV | .plainF | .plainT
  | .plainR | .plain5 | .plainN | .plainB | .plainH | .plainG | .plainY | .plain6
  | .plainM | .plainJ | .plainU | .plain7 | .plain8 | .plainComma | .plainK | .plainI
  | .plainO | .plain0 | .plain9 | .plainPeriod | .plainSlash | .plainL | .plainSemicolon | .plainP
  | .plainMinus | .plainApostrophe | .plainLeftBracket | .plainEqual | .plainCapsLock | .plainRightShift | .plainEnter | .plainRightBracket
  | .plainBackslash | .plainNonUSBackslash | .plainBackspace | .plainKeypad1 | .plainKeypad4 | .plainKeypad7 | .plainKeypad0 | .plainKeypadPeriod
  | .plainKeypad2 | .plainKeypad5 | .plainKeypad6 | .plainKeypad8 | .plainEscape | .plainNumLock | .plainF11 | .plainKeypadPlus
  | .plainKeypad3 | .plainKeypadMinus | .plainKeypadMultiply | .plainKeypad9 | .plainScrollLock | .plainF7 | .extRightAlt | .extRightCtrl
  | .extLeftGUI | .extRightGUI | .extApplication | .extKeypadDivide | .extKeypadEnter | .extEnd | .extLeftArrow | .extHome
  | .extInsert | .extDelete | .extDownArrow | .extRightArrow | .extUpArrow | .extPageDown | .extPrintScreen | .extPageUp => true

end Sys2Proof
end

