-- ==== Sys2Proof/Decode.lean ====
section
/-! DEFINITION. Decoding an operation word (spec/30_encoding.md R73 and section 3, spec/opcode_table.json) and, after it, the encoder.

A word of one format can match several rows (a default row and a fixed one; STEP and CLEAR_CHANGED; INIT_LINK and INIT_STATE). The decoder
reads the row with the most fixed bits, and of two with equally many the first of the table: the rule the spec states for default rows ("match only where no
fixed row does"), taken for all (DEDUCED, notes/assumptions/10.md). What a step does with a word that matches two rows is Machine/Fetch.lean. -/

namespace Sys2Proof

/-- Rows by address; the first that matches. -/
def rowAt : List (Nat × Instr) → Nat → Option Instr
  | [], _ => none
  | (k, i) :: rows, a => if k = a then some i else rowAt rows a

/-- The TABLE_ENTRY rows PLAIN.*, by their 9-bit address `{e, code}`. -/
def plainEntryRows : List (Nat × Instr) :=
  [(0x001, .plainF9), (0x003, .plainF5), (0x004, .plainF3), (0x005, .plainF1),
   (0x006, .plainF2), (0x007, .plainF12), (0x009, .plainF10), (0x00A, .plainF8),
   (0x00B, .plainF6), (0x00C, .plainF4), (0x00D, .plainTab), (0x00E, .plainGrave),
   (0x011, .plainLeftAlt), (0x012, .plainLeftShift), (0x014, .plainLeftCtrl), (0x015, .plainQ)] ++
  [(0x016, .plain1), (0x01A, .plainZ), (0x01B, .plainS), (0x01C, .plainA),
   (0x01D, .plainW), (0x01E, .plain2), (0x021, .plainC), (0x022, .plainX),
   (0x023, .plainD), (0x024, .plainE), (0x025, .plain4), (0x026, .plain3),
   (0x029, .plainSpace), (0x02A, .plainV), (0x02B, .plainF), (0x02C, .plainT)] ++
  [(0x02D, .plainR), (0x02E, .plain5), (0x031, .plainN), (0x032, .plainB),
   (0x033, .plainH), (0x034, .plainG), (0x035, .plainY), (0x036, .plain6),
   (0x03A, .plainM), (0x03B, .plainJ), (0x03C, .plainU), (0x03D, .plain7),
   (0x03E, .plain8), (0x041, .plainComma), (0x042, .plainK), (0x043, .plainI)] ++
  [(0x044, .plainO), (0x045, .plain0), (0x046, .plain9), (0x049, .plainPeriod),
   (0x04A, .plainSlash), (0x04B, .plainL), (0x04C, .plainSemicolon), (0x04D, .plainP),
   (0x04E, .plainMinus), (0x052, .plainApostrophe), (0x054, .plainLeftBracket), (0x055, .plainEqual),
   (0x058, .plainCapsLock), (0x059, .plainRightShift), (0x05A, .plainEnter), (0x05B, .plainRightBracket)] ++
  [(0x05D, .plainBackslash), (0x061, .plainNonUSBackslash), (0x066, .plainBackspace), (0x069, .plainKeypad1),
   (0x06B, .plainKeypad4), (0x06C, .plainKeypad7), (0x070, .plainKeypad0), (0x071, .plainKeypadPeriod),
   (0x072, .plainKeypad2), (0x073, .plainKeypad5), (0x074, .plainKeypad6), (0x075, .plainKeypad8),
   (0x076, .plainEscape), (0x077, .plainNumLock), (0x078, .plainF11), (0x079, .plainKeypadPlus)] ++
  [(0x07A, .plainKeypad3), (0x07B, .plainKeypadMinus), (0x07C, .plainKeypadMultiply), (0x07D, .plainKeypad9),
   (0x07E, .plainScrollLock), (0x083, .plainF7)]

/-- The TABLE_ENTRY rows EXT.*, by their 9-bit address `{e, code}`. -/
def extEntryRows : List (Nat × Instr) :=
  [(0x111, .extRightAlt), (0x114, .extRightCtrl), (0x11F, .extLeftGUI), (0x127, .extRightGUI),
   (0x12F, .extApplication), (0x14A, .extKeypadDivide), (0x15A, .extKeypadEnter), (0x169, .extEnd),
   (0x16B, .extLeftArrow), (0x16C, .extHome), (0x170, .extInsert), (0x171, .extDelete),
   (0x172, .extDownArrow), (0x174, .extRightArrow), (0x175, .extUpArrow), (0x17A, .extPageDown)] ++
  [(0x17C, .extPrintScreen), (0x17D, .extPageUp)]

/-- SAMPLER, `p c iiii` in bits 5..0 and the operand `d` in bit 6 (R73 stage 1, R92, R74). -/
def decodeSampler (w : BitVec 9) : Instr :=
  let i : BitVec 4 := w.setWidth 4
  let c := w.getLsbD 4
  let p := w.getLsbD 5
  let d := w.getLsbD 6
  match i.toNat with
  | 11 => .reservedBitIndex11 p c d
  | 12 => .reservedBitIndex12 p c d
  | 13 => .reservedBitIndex13 p c d
  | 14 => .reservedBitIndex14 p c d
  | 15 => .reservedBitIndex15 p c d
  | n =>
    match p, c with
    | false, false => .sNoedgeLow i d
    | false, true => .sNoedgeRising i d
    | true, true => .sNoedgeHigh i d
    | true, false =>
      match n with
      | 0 => .sStart d
      | 1 => .sData1 d
      | 2 => .sData2 d
      | 3 => .sData3 d
      | 4 => .sData4 d
      | 5 => .sData5 d
      | 6 => .sData6 d
      | 7 => .sData7 d
      | 8 => .sData8 d
      | 9 => .sParity d
      | _ => .sStop d

/-- FRAMEBYTE (R62, R73 stage 2). -/
def decodeFrameByte (v : Byte) : Instr :=
  if v = 0xF0#8 then .fBreak else if v = 0xE0#8 then .fExt else .fTerm v

/-- IDENT, `is_break` in bit 8 and the identity in bits 7..0, with the default sentinel values (R42, R73 stage 4). -/
def decodeIdent (w : BitVec 9) : Instr :=
  let b := w.getLsbD 8
  let id : Byte := w.setWidth 8
  if id = 0#8 then .kUnmapped b
  else if id.toNat ≤ 0xDF then (if b then .ordRelease id else .ordPress id)
  else if id.toNat ≤ 0xE7 then
    let n : Fin 8 := Fin.ofNat 8 (id.toNat - 0xE0)
    if b then .modRelease n else .modPress n
  else if id = 0xE8#8 then (if b then .capsRelease else .capsPress)
  else .reservedIdent b id

/-- STEPWORD, `r l c d` (R60, R73): `1 l c d` INIT_LINK (INIT_STATE has the same words), `0 1 c d` CLEAR_CHANGED (a STEP word too), `0 0 c d` STEP. -/
def decodeStepWord (w : StepWord) : Instr :=
  let d := w.getLsbD 0
  let c := w.getLsbD 1
  let l := w.getLsbD 2
  if w.getLsbD 3 then .initLink l c d
  else if l then .clearChanged c d
  else .step false c d

/-- OUTPUT by port number (DESIGN CHOICE, notes/assumptions/9.md). -/
def decodeOutput (n : BitVec 2) : Instr :=
  match n.toNat with
  | 0 => .getModifiers
  | 1 => .getKeys
  | 2 => .hasChanged
  | _ => .report

/-- The decoder: total on every word of every format, rejecting by name. -/
def decode (w : OpWord) : Except Reject Instr :=
  if w.bits.toNat < 2 ^ w.format.width then
    match w.format with
    | .sampler => .ok (decodeSampler w.bits)
    | .frameByte => .ok (decodeFrameByte (w.bits.setWidth 8))
    | .tableAddr => .ok (.tLookup (w.bits.getLsbD 8) (w.bits.setWidth 8))
    | .ident => .ok (decodeIdent w.bits)
    | .stepWord => .ok (decodeStepWord (w.bits.setWidth 4))
    | .output => .ok (decodeOutput (w.bits.setWidth 2))
    | .tableEntry =>
      match rowAt (if w.bits.getLsbD 8 then extEntryRows else plainEntryRows) w.bits.toNat with
      | some i => .ok i
      | none => .error (.noTableEntry w.bits.toNat)
  else .error (.bitsAboveFormat w.format)

/-- The format in which a flat number of `nbits` bits is read. The table's formats overlap as flat numbers; the number is read as the row with the most
fixed bits, the zero bits above a row's pattern counted among them (DESIGN CHOICE, notes/assumptions/8.md): below 16 as a STEPWORD but for the RESERVED.BIT_INDEX
numbers, below 64 as a SAMPLER word, other bytes as FRAMEBYTE; of two bytes, as a TABLE_ENTRY where there is one, else as IDENT. -/
def flatFormat (nbits w : Nat) : Option Format :=
  if nbits = 0 then (if w = 0 then some .output else none)
  else if nbits ≤ 8 then
    if w < 11 then some .stepWord
    else if w < 64 then some .sampler
    else if w < 256 then some .frameByte
    else none
  else if nbits ≤ 16 then
    if w < 512 then
      (if (rowAt (if 256 ≤ w then extEntryRows else plainEntryRows) w).isSome then some .tableEntry else some .ident)
    else none
  else none

/-- The instruction the decoder reads from the flat number `w` of `nbits` bits. -/
def decodeTableWord (nbits w : Nat) : Option Instr :=
  match flatFormat nbits w with
  | some f => (decode ⟨f, BitVec.ofNat 9 w⟩).toOption
  | none => none

/-! ## The encoder -/

/-- A SAMPLER word. -/
def samplerWord (p c : Bool) (i : BitVec 4) (d : Bool) : OpWord :=
  ⟨.sampler, 0#2 ++ BitVec.ofBool d ++ BitVec.ofBool p ++ BitVec.ofBool c ++ i⟩

/-- A FRAMEBYTE word. -/
def frameByteWord (v : Byte) : OpWord := ⟨.frameByte, 0#1 ++ v⟩

/-- An IDENT word. -/
def identWord (b : Bool) (id : Byte) : OpWord := ⟨.ident, BitVec.ofBool b ++ id⟩

/-- The step input word `{rst, clr, c, d}` (R60). -/
def stepInput (r l c d : Bool) : StepWord :=
  BitVec.ofBool r ++ BitVec.ofBool l ++ BitVec.ofBool c ++ BitVec.ofBool d

/-- A STEPWORD word. -/
def stepOpWord (r l c d : Bool) : OpWord := ⟨.stepWord, 0#5 ++ stepInput r l c d⟩

/-- A TABLE_ENTRY word. -/
def entryWord (a : BitVec 9) : OpWord := ⟨.tableEntry, a⟩

/-- The word of an operation, from the patterns of spec/opcode_table.json. -/
def encode : Instr → OpWord
  | .sNoedgeLow i d => samplerWord false false i d
  | .sNoedgeRising i d => samplerWord false true i d
  | .sNoedgeHigh i d => samplerWord true true i d
  | .sStart d => samplerWord true false 0x0#4 d
  | .sData1 d => samplerWord true false 0x1#4 d
  | .sData2 d => samplerWord true false 0x2#4 d
  | .sData3 d => samplerWord true false 0x3#4 d
  | .sData4 d => samplerWord true false 0x4#4 d
  | .sData5 d => samplerWord true false 0x5#4 d
  | .sData6 d => samplerWord true false 0x6#4 d
  | .sData7 d => samplerWord true false 0x7#4 d
  | .sData8 d => samplerWord true false 0x8#4 d
  | .sParity d => samplerWord true false 0x9#4 d
  | .sStop d => samplerWord true false 0xA#4 d
  | .reservedBitIndex11 p c d => samplerWord p c 0xB#4 d
  | .reservedBitIndex12 p c d => samplerWord p c 0xC#4 d
  | .reservedBitIndex13 p c d => samplerWord p c 0xD#4 d
  | .reservedBitIndex14 p c d => samplerWord p c 0xE#4 d
  | .reservedBitIndex15 p c d => samplerWord p c 0xF#4 d
  | .fBreak => frameByteWord 0xF0#8
  | .fExt => frameByteWord 0xE0#8
  | .fTerm v => frameByteWord v
  | .tLookup e c => ⟨.tableAddr, BitVec.ofBool e ++ c⟩
  | .kUnmapped b => identWord b 0x00#8
  | .modPress n => identWord false (BitVec.ofNat 8 (0xE0 + n.val))
  | .modRelease n => identWord true (BitVec.ofNat 8 (0xE0 + n.val))
  | .capsPress => identWord false 0xE8#8
  | .capsRelease => identWord true 0xE8#8
  | .ordPress id => identWord false id
  | .ordRelease id => identWord true id
  | .reservedIdent b id => identWord b id
  | .step l c d => stepOpWord false l c d
  | .clearChanged c d => stepOpWord false true c d
  | .initLink l c d => stepOpWord true l c d
  | .initState l c d => stepOpWord true l c d
  | .getModifiers => ⟨.output, 0#9⟩
  | .getKeys => ⟨.output, 1#9⟩
  | .hasChanged => ⟨.output, 2#9⟩
  | .report => ⟨.output, 3#9⟩
  | .plainF9 => entryWord 0x001#9
  | .plainF5 => entryWord 0x003#9
  | .plainF3 => entryWord 0x004#9
  | .plainF1 => entryWord 0x005#9
  | .plainF2 => entryWord 0x006#9
  | .plainF12 => entryWord 0x007#9
  | .plainF10 => entryWord 0x009#9
  | .plainF8 => entryWord 0x00A#9
  | .plainF6 => entryWord 0x00B#9
  | .plainF4 => entryWord 0x00C#9
  | .plainTab => entryWord 0x00D#9
  | .plainGrave => entryWord 0x00E#9
  | .plainLeftAlt => entryWord 0x011#9
  | .plainLeftShift => entryWord 0x012#9
  | .plainLeftCtrl => entryWord 0x014#9
  | .plainQ => entryWord 0x015#9
  | .plain1 => entryWord 0x016#9
  | .plainZ => entryWord 0x01A#9
  | .plainS => entryWord 0x01B#9
  | .plainA => entryWord 0x01C#9
  | .plainW => entryWord 0x01D#9
  | .plain2 => entryWord 0x01E#9
  | .plainC => entryWord 0x021#9
  | .plainX => entryWord 0x022#9
  | .plainD => entryWord 0x023#9
  | .plainE => entryWord 0x024#9
  | .plain4 => entryWord 0x025#9
  | .plain3 => entryWord 0x026#9
  | .plainSpace => entryWord 0x029#9
  | .plainV => entryWord 0x02A#9
  | .plainF => entryWord 0x02B#9
  | .plainT => entryWord 0x02C#9
  | .plainR => entryWord 0x02D#9
  | .plain5 => entryWord 0x02E#9
  | .plainN => entryWord 0x031#9
  | .plainB => entryWord 0x032#9
  | .plainH => entryWord 0x033#9
  | .plainG => entryWord 0x034#9
  | .plainY => entryWord 0x035#9
  | .plain6 => entryWord 0x036#9
  | .plainM => entryWord 0x03A#9
  | .plainJ => entryWord 0x03B#9
  | .plainU => entryWord 0x03C#9
  | .plain7 => entryWord 0x03D#9
  | .plain8 => entryWord 0x03E#9
  | .plainComma => entryWord 0x041#9
  | .plainK => entryWord 0x042#9
  | .plainI => entryWord 0x043#9
  | .plainO => entryWord 0x044#9
  | .plain0 => entryWord 0x045#9
  | .plain9 => entryWord 0x046#9
  | .plainPeriod => entryWord 0x049#9
  | .plainSlash => entryWord 0x04A#9
  | .plainL => entryWord 0x04B#9
  | .plainSemicolon => entryWord 0x04C#9
  | .plainP => entryWord 0x04D#9
  | .plainMinus => entryWord 0x04E#9
  | .plainApostrophe => entryWord 0x052#9
  | .plainLeftBracket => entryWord 0x054#9
  | .plainEqual => entryWord 0x055#9
  | .plainCapsLock => entryWord 0x058#9
  | .plainRightShift => entryWord 0x059#9
  | .plainEnter => entryWord 0x05A#9
  | .plainRightBracket => entryWord 0x05B#9
  | .plainBackslash => entryWord 0x05D#9
  | .plainNonUSBackslash => entryWord 0x061#9
  | .plainBackspace => entryWord 0x066#9
  | .plainKeypad1 => entryWord 0x069#9
  | .plainKeypad4 => entryWord 0x06B#9
  | .plainKeypad7 => entryWord 0x06C#9
  | .plainKeypad0 => entryWord 0x070#9
  | .plainKeypadPeriod => entryWord 0x071#9
  | .plainKeypad2 => entryWord 0x072#9
  | .plainKeypad5 => entryWord 0x073#9
  | .plainKeypad6 => entryWord 0x074#9
  | .plainKeypad8 => entryWord 0x075#9
  | .plainEscape => entryWord 0x076#9
  | .plainNumLock => entryWord 0x077#9
  | .plainF11 => entryWord 0x078#9
  | .plainKeypadPlus => entryWord 0x079#9
  | .plainKeypad3 => entryWord 0x07A#9
  | .plainKeypadMinus => entryWord 0x07B#9
  | .plainKeypadMultiply => entryWord 0x07C#9
  | .plainKeypad9 => entryWord 0x07D#9
  | .plainScrollLock => entryWord 0x07E#9
  | .plainF7 => entryWord 0x083#9
  | .extRightAlt => entryWord 0x111#9
  | .extRightCtrl => entryWord 0x114#9
  | .extLeftGUI => entryWord 0x11F#9
  | .extRightGUI => entryWord 0x127#9
  | .extApplication => entryWord 0x12F#9
  | .extKeypadDivide => entryWord 0x14A#9
  | .extKeypadEnter => entryWord 0x15A#9
  | .extEnd => entryWord 0x169#9
  | .extLeftArrow => entryWord 0x16B#9
  | .extHome => entryWord 0x16C#9
  | .extInsert => entryWord 0x170#9
  | .extDelete => entryWord 0x171#9
  | .extDownArrow => entryWord 0x172#9
  | .extRightArrow => entryWord 0x174#9
  | .extUpArrow => entryWord 0x175#9
  | .extPageDown => entryWord 0x17A#9
  | .extPrintScreen => entryWord 0x17C#9
  | .extPageUp => entryWord 0x17D#9

end Sys2Proof
end

