-- ==== Sys2Proof/Machine/Stimulus.lean ====
section
/-! DEFINITION. Stimuli: the notation of spec/30_encoding.md R78, R79 as lists of step words, a bit carried by several samples (R210), and the placing of an
operation so that the next step selects it. -/

namespace Sys2Proof.Machine

/-- What the lines read when no input is placed: the idle line `c = 1, d = 1` (R202 (b)), no clear, no reset (DESIGN CHOICE, notes/assumptions/2.md). -/
def idleWord : StepWord := stepInput false false true true

/-- `S c d` (R78). -/
def stimS (c d : Bool) : StepWord := stepInput false false c d

/-- `SC c d` (R78). -/
def stimSC (c d : Bool) : StepWord := stepInput false true c d

/-- `RST` (R78). -/
def stimRST : StepWord := stepInput true false true true

/-- `CLR` (R79). -/
def stimCLR : StepWord := stimSC true true

/-- `IDLE n` (R79). -/
def stimIdle (n : Nat) : List StepWord := List.replicate n (stimS true true)

/-- `BIT b` (R79). -/
def stimBit (b : Bool) : List StepWord := [stimS true b, stimS false b]

/-- `odd(v)`: 1 when v has an even number of 1 bits (R79). -/
def oddParity (v : Byte) : Bool :=
  !(v.getLsbD 0 ^^ v.getLsbD 1 ^^ v.getLsbD 2 ^^ v.getLsbD 3 ^^ v.getLsbD 4 ^^ v.getLsbD 5 ^^ v.getLsbD 6 ^^ v.getLsbD 7)

/-- The eleven levels of a frame, in the order they are sent: start, data 0 to 7, parity, stop (R61, R45). -/
def frameLevels (start : Bool) (v : Byte) (parity stop : Bool) : List Bool :=
  [start, v.getLsbD 0, v.getLsbD 1, v.getLsbD 2, v.getLsbD 3, v.getLsbD 4, v.getLsbD 5, v.getLsbD 6, v.getLsbD 7, parity, stop]

/-- `FRAMEX s v p t` (R79). -/
def stimFrameX (start : Bool) (v : Byte) (parity stop : Bool) : List StepWord :=
  (frameLevels start v parity stop).flatMap stimBit

/-- `FRAME v` (R79). -/
def stimFrame (v : Byte) : List StepWord := stimFrameX false v (oddParity v) true

/-- `MAKE k` (R79). -/
def stimMake (k : Byte) : List StepWord := stimFrame k

/-- `BREAK k` (R79). -/
def stimBreak (k : Byte) : List StepWord := stimFrame breakPrefix ++ stimFrame k

/-- `EMAKE k` (R79). -/
def stimEMake (k : Byte) : List StepWord := stimFrame extPrefix ++ stimFrame k

/-- `EBREAK k` (R79). -/
def stimEBreak (k : Byte) : List StepWord := stimFrame extPrefix ++ stimFrame breakPrefix ++ stimFrame k

/-- How one transmitted bit is carried by the samples under LINK_WELL_SAMPLED (R210): before its low phase at least one high sample, `highs` more after the
first one; the first low sample carries the bit; further low samples may show anything. The lists are the data levels of the samples. -/
structure CarriedBit where
  firstHigh : Bool
  highs : List Bool
  level : Bool
  lows : List Bool
deriving DecidableEq, Repr

/-- The samples that carry the bit. -/
def CarriedBit.samples (b : CarriedBit) : List StepWord :=
  stimS true b.firstHigh :: (b.highs.map (stimS true) ++ stimS false b.level :: b.lows.map (stimS false))

/-- The number of falling edges a sample list shows to a detector that last saw `previousClock` (R90, R91). -/
def fallingEdges : Bool → List StepWord → Nat
  | _, [] => 0
  | previousClock, w :: ws =>
    (if fallingEdge previousClock (StepWord.clock w) then 1 else 0) + fallingEdges (StepWord.clock w) ws

/-- The block at a stop bit with the frame byte `v`, its falling edge to come. -/
def atStopBit (v : Byte) (s : State) : State :=
  { s with block := { s.block with bitIndex := 10, byteValue := v, previousClock := true }, stimulus := [stimS false false] }

/-- The state made such that the next step selects the operation of the word: a step word is the next input; a selector of a later stage is put where that stage
reads it (R73). The identity of an IDENT word is put into `PLAIN_TABLE[0x00]`. A `bit_index` of 11..15 cannot be put anywhere (R74): the state stays
(notes/assumptions/7.md). -/
def placeOp (w : OpWord) (s : State) : State :=
  match w.format with
  | .stepWord => { s with stimulus := [w.bits.setWidth 4] }
  | .sampler =>
    let i := (w.bits.setWidth 4).toNat
    if i ≤ 10 then
      { s with
        block := { s.block with bitIndex := Fin.ofNat 11 i, previousClock := w.bits.getLsbD 5 }
        stimulus := [stimS (w.bits.getLsbD 4) (w.bits.getLsbD 6)] }
    else s
  | .frameByte => atStopBit (w.bits.setWidth 8) s
  | .tableAddr | .tableEntry =>
    let t := atStopBit (w.bits.setWidth 8) s
    { t with block := { t.block with extendedPending := w.bits.getLsbD 8 } }
  | .ident =>
    let t := atStopBit 0x00#8 s
    { t with
      block := { t.block with breakPending := w.bits.getLsbD 8, extendedPending := false }
      config := { s.config with plainTable := Memory.write s.config.plainTable 0 (w.bits.setWidth 8) } }
  | .output => { s with stimulus := [idleWord] }

end Sys2Proof.Machine
end

