-- ==== Sys2Proof/Machine/Fetch.lean ====
section
/-! DEFINITION. What a step runs: the next input word, decoded, and the operations that word selects (R60, R73, R170, R189). -/

namespace Sys2Proof.Machine

/-- The step's input: the next word of the stimulus, the idle line when none is placed (notes/assumptions/2.md). -/
def nextWord (s : State) : StepWord := s.stimulus.headD idleWord

/-- The state with the step's input taken. -/
def consume (s : State) : State := { s with stimulus := s.stimulus.tail }

/-- What a step runs for a decoded step word. `1 l c d` performs INIT_LINK and INIT_STATE together (R27, R173, R174); `0 1 c d` is a STEP with `clr = 1`, whose last
part is CLEAR_CHANGED unless a mutation occurred (R153, R170, R172); `0 0 c d` is STEP. -/
def runDecoded (i : Instr) (s : State) : Answer :=
  match i with
  | .initLink l c d => Answer.andThen (exec (.initLink l c d) s) (exec (.initState l c d))
  | .clearChanged c d => exec (.step true c d) s
  | i => exec i s

/-- Operations run one after another, each by its own meaning: the call-level view of R175. -/
def runInstrs : List Instr → State → Answer
  | [], s => .next s
  | i :: is, s => Answer.andThen (exec i s) (runInstrs is)

/-- One step of a well-configured machine. -/
def runStep (s : State) : Answer := runDecoded (decodeStepWord (nextWord s)) (consume s)

end Sys2Proof.Machine
end

