-- ==== Sys2Proof/Machine/Step.lean ====
section
/-! DEFINITION. The step of the host's interface, and the placing of one operation at the point where it fetches. -/

namespace Sys2Proof.Machine

/-- One step (R5, R170). An ill-formed configuration is refused ("the only refusal is of ill-formed tables, at configuration time", R180, R43). -/
def step (s : State) : Host.Outcome State Fault Refusal :=
  if s.config.wf then runStep s else .refused .illFormedConfig

/-- The state whose next step selects the operation the flat number decodes to (notes/assumptions/7.md, 8.md). -/
def State.withFetchWord (s : State) (nbits w : Nat) : State :=
  match decodeTableWord nbits w with
  | some i => placeOp (encode i) s
  | none => s

end Sys2Proof.Machine
end

