-- ==== Sys2Proof/Safety.lean ====
section
/-! DEFINITION. What counts as a safe run: the invariants of R19, and the machine stepping on. A run of a well-configured machine never stops (R176, R180); its states
keep the invariants `Inv`. -/

namespace Sys2Proof

open Machine

/-- Two blocks with the same decoder elements (the Frame Accumulator and the Prefix Flags, R20). -/
def SameDecoder (a b : Block) : Prop :=
  a.bitIndex = b.bitIndex ∧ a.byteValue = b.byteValue ∧ a.previousClock = b.previousClock ∧ a.breakPending = b.breakPending ∧
  a.extendedPending = b.extendedPending

/-- I2: `byte_value` is zero above the data bits of the frame so far (R19, R12). -/
def AccumulatorClear (b : Block) : Prop :=
  (b.bitIndex.val ≤ 1 → b.byteValue = 0x00#8) ∧
  ∀ k : Nat, 1 ≤ k → k ≤ 8 → b.bitIndex.val = k + 1 → b.byteValue.toNat < 2 ^ k

/-- I3: each non-zero identity appears in `keys` at most once (R19). -/
def KeysDistinct (b : Block) : Prop :=
  ∀ i j : Fin 6, b.keys[i] ≠ 0x00#8 → b.keys[i] = b.keys[j] → i = j

/-- The identity is one that some entry of `PLAIN_TABLE` or `EXT_TABLE` maps to as an ordinary identity, or `ID_CAPSLOCK` (R19, I4). -/
def MappedIdentity (cfg : Config) (id : Byte) : Prop :=
  id = cfg.idCapsLock ∨ (cfg.classify id = .ordinary ∧ ∃ (isExtended : Bool) (code : Byte), cfg.lookup isExtended code = id)

/-- I4: no slot holds a sentinel, and every non-zero slot holds a mapped ordinary identity or `ID_CAPSLOCK` (R19). -/
def KeysMapped (cfg : Config) (b : Block) : Prop :=
  ∀ i : Fin 6, b.keys[i] ∉ cfg.sentinels ∧ (b.keys[i] ≠ 0x00#8 → MappedIdentity cfg b.keys[i])

/-- The invariants of R19 that are about one state, with the well-formedness of the parameters (R43). I1 is the type of `bitIndex`. -/
structure Inv (s : State) : Prop where
  config_wf : s.config.wf = true
  accumulator_clear : AccumulatorClear s.block
  keys_distinct : KeysDistinct s.block
  keys_mapped : KeysMapped s.config s.block

end Sys2Proof
end

