-- ==== Sys2Proof/Certificates/Slice0/Obligations.lean ====
section
/-! DEFINITION. The statements for the provers, each a rule of spec/ or a consequence of its rules. Where a statement speaks of a step, the step's input is the head of
`State.stimulus` (the model's own field, notes/assumptions/1.md); what an operation hands out stands in `State.result` (the model's own field,
notes/assumptions/3.md). Statements hold for every well-formed configuration, not only the default one. -/

open Sys2Proof Sys2Proof.Machine

/-! ## Encoding and fetch -/

/-- R60, R62, R71, R73 and the patterns of spec/opcode_table.json: decoding an encoded well-formed operation gives it back. STEP with `clear_changed = 1`
shares its words with CLEAR_CHANGED, and INIT_STATE with INIT_LINK; their words decode to those
(DEDUCED, notes/assumptions/10.md). The SAMPLER operand at bit 6 and the OUTPUT port numbers are the model's layout (DESIGN CHOICE, notes/assumptions/9.md). -/
def Obligations.EncodedOperationDecodesToItself : Prop :=
  (∀ i : Instr, i.wf = true → (∀ c d, i ≠ .step true c d) → (∀ l c d, i ≠ .initState l c d) → decode (encode i) = .ok i) ∧
  (∀ c d, decode (encode (.step true c d)) = .ok (.clearChanged c d)) ∧
  (∀ l c d, decode (encode (.initState l c d)) = .ok (.initLink l c d))

/-- The other direction: a word that decodes is the word of the operation it decodes to, and the operation is well-formed (the SAMPLER operand at bit 6, the OUTPUT
port numbers and the row a shared word decodes to are the model's: notes/assumptions/9.md, 10.md). -/
def Obligations.DecodedWordEncodesBack : Prop :=
  ∀ (w : OpWord) (i : Instr), decode w = .ok i → i.wf = true ∧ encode i = w

/-- Words written out from the table's patterns (R73), for every format but OUTPUT, whose rows have no pattern. Two choices are the model's: the operand `d` of a
SAMPLER word stands at bit 6, outside the table's six selector bits (DESIGN CHOICE, notes/assumptions/9.md), and a word `0 1 c d`, which STEP matches too, is read
as CLEAR_CHANGED (DEDUCED, notes/assumptions/10.md). -/
def Obligations.WordsOfTheTableDecode : Prop :=
  decode ⟨.sampler, 0b000100000#9⟩ = .ok (.sStart false) ∧
  decode ⟨.sampler, 0b001101000#9⟩ = .ok (.sData8 true) ∧
  decode ⟨.frameByte, 0b011110000#9⟩ = .ok .fBreak ∧
  decode ⟨.tableAddr, 0b101110100#9⟩ = .ok (.tLookup true 0x74#8) ∧
  decode ⟨.ident, 0b111100101#9⟩ = .ok (.modRelease 5) ∧
  decode ⟨.stepWord, 0b000000101#9⟩ = .ok (.clearChanged false true) ∧
  decode ⟨.tableEntry, 0b000011100#9⟩ = .ok .plainA

/-- A step runs the operation its input word decodes to (R60, R73, R170). The input is the head of the stimulus, the idle sample when there is none
(notes/assumptions/2.md). Around `exec` the step takes the input; for `0 1 c d`, which is a STEP word too, it runs STEP with `clr = 1`; for `1 l c d` it runs
INIT_LINK and then INIT_STATE. -/
def Obligations.StepRunsTheDecodedWord : Prop :=
  ∀ s : State, s.config.wf = true →
    ∃ i, decode ⟨.stepWord, (s.stimulus.headD 0b0011#4).setWidth 9⟩ = .ok i ∧
      ((∃ c d, i = .step false c d ∧ step s = exec i { s with stimulus := s.stimulus.tail }) ∨
       (∃ c d, i = .clearChanged c d ∧ step s = exec (.step true c d) { s with stimulus := s.stimulus.tail }) ∨
       (∃ l c d t, i = .initLink l c d ∧ exec i { s with stimulus := s.stimulus.tail } = .next t ∧ step s = exec (.initState l c d) t))

/-! ## The step -/

/-- R43, W1 to W5, spelled out: what a well-formed configuration is. The canonical form of the tables and the ordinary range of `ID_CAPSLOCK` are the model's
(notes/assumptions/14.md, 15.md). -/
def Obligations.WellFormedConfigIsTheOneOfR43 : Prop :=
  ∀ cfg : Config, cfg.wf = true ↔
    Memory.wf cfg.plainTable = true ∧ Memory.wf cfg.extTable = true ∧
    (∀ (e : Bool) (code : Byte), cfg.classify (cfg.lookup e code) ≠ .reserved) ∧
    (∀ n m : Fin 8, cfg.sentMod[n] = cfg.sentMod[m] → n = m) ∧
    (∀ n : Fin 8, cfg.sentMod[n] ≠ cfg.sentCaps ∧ cfg.sentMod[n] ≠ 0x00#8 ∧ cfg.inOrdinaryRange cfg.sentMod[n] = false) ∧
    cfg.sentCaps ≠ 0x00#8 ∧ cfg.inOrdinaryRange cfg.sentCaps = false ∧
    cfg.idCapsLock ≠ 0x00#8 ∧ cfg.idCapsLock ≠ cfg.sentCaps ∧ (∀ n : Fin 8, cfg.idCapsLock ≠ cfg.sentMod[n]) ∧
    cfg.inOrdinaryRange cfg.idCapsLock = true ∧
    cfg.inOrdinaryRange 0x00#8 = false ∧
    cfg.inOrdinaryRange (cfg.lookup false 0x1C#8) = true ∧ cfg.lookup false 0x12#8 = cfg.sentMod[1]

/-- R4, R176, R180: with a well-formed configuration every state has a successor for every input; R52: the parameters stay. The second clause is the model's
choice (DEDUCED, notes/assumptions/14.md): the spec refuses ill-formed tables at configuration time, which the model does not have, so it refuses every step from
an ill-formed configuration, one whose `ID_CAPSLOCK` is outside the ordinary range included; the step takes its input from the model's queue
(notes/assumptions/1.md). -/
def Obligations.StepAnswersNextExactlyOnWellFormedConfig : Prop :=
  ∀ s : State,
    (s.config.wf = true → ∃ t, step s = .next t ∧ t.config = s.config ∧ t.stimulus = s.stimulus.tail) ∧
    (s.config.wf = false → step s = .refused .illFormedConfig)

/-- R170 with R73, R92, R121, R122, R172: STEP is the sampler operation its selector `p c iiii` names, then, for an event, T.LOOKUP and the tracker operation that
the identity's class and `is_break` name, then the resolution of `changed`. Each stage is the meaning of its own row. That the SAMPLER word carries its operand `d`
at bit 6 is the model's choice (DESIGN CHOICE, notes/assumptions/9.md). -/
def Obligations.StepComposesItsSelectedOperations : Prop :=
  ∀ (s : State) (l c d : Bool), s.config.wf = true →
    ∃ i s1 t,
      decode ⟨.sampler, 0#2 ++ BitVec.ofBool d ++ BitVec.ofBool s.block.previousClock ++ BitVec.ofBool c ++
        BitVec.ofNat 4 s.block.bitIndex.val⟩ = .ok i ∧
      exec i s = .next s1 ∧ exec (.step l c d) s = .next t ∧ t.result = s1.result ∧
      ((s1.result = .none ∧ t = { s1 with block := { s1.block with changed := !l && s1.block.changed } }) ∨
       (∃ e id j s3, s1.result = .event e ∧
          exec (.tLookup e.isExtended e.code) s1 = .next { s1 with result := .identity id } ∧
          ((id = 0x00#8 ∧ j = .kUnmapped e.isBreak) ∨
           (∃ n : Fin 8, id = s.config.sentMod[n] ∧ j = if e.isBreak then .modRelease n else .modPress n) ∨
           (id = s.config.sentCaps ∧ j = if e.isBreak then .capsRelease else .capsPress) ∨
           (s.config.inOrdinaryRange id = true ∧ j = if e.isBreak then .ordRelease id else .ordPress id)) ∧
          exec j s1 = .next s3 ∧
          t = { s1 with block := { s3.block with
                changed := if s3.block.modifiers ≠ s1.block.modifiers ∨ s3.block.keys ≠ s1.block.keys then true
                           else !l && s1.block.changed } }))

/-- R172, R51: a mutation sets `changed` and wins over a clear of the same step; a clear without a mutation clears it; otherwise it holds. -/
def Obligations.ChangedIsResolvedAfterTheMutation : Prop :=
  ∀ (s : State) (w : StepWord) (ws : List StepWord), s.config.wf = true → s.stimulus = w :: ws → w.getLsbD 3 = false →
    ∃ t, step s = .next t ∧
      t.block.changed =
        if t.block.modifiers ≠ s.block.modifiers ∨ t.block.keys ≠ s.block.keys then true
        else if w.getLsbD 2 then false
        else s.block.changed

/-- R27, R173, R174: a step with rst = 1 leaves every element at its reset value, whatever the other inputs and the state were, and hands out no event. -/
def Obligations.ResetStepGivesTheResetState : Prop :=
  ∀ (s : State) (w : StepWord) (ws : List StepWord), s.config.wf = true → s.stimulus = w :: ws → w.getLsbD 3 = true →
    step s = .next
      { block :=
          { bitIndex := 0, byteValue := 0x00#8, previousClock := s.config.prevClkReset, breakPending := false, extendedPending := false,
            modifiers := 0x00#8, keys := #v[0x00#8, 0x00#8, 0x00#8, 0x00#8, 0x00#8, 0x00#8], changed := false },
        config := s.config, stimulus := ws, result := .none }

/-- R98, R91: the next `bit_index` is a function of the falling edge and `bit_index` only, and `previous_clock` becomes the sampled clock. -/
def Obligations.FrameSequencerFollowsTheFallingEdges : Prop :=
  ∀ (s : State) (w : StepWord) (ws : List StepWord), s.config.wf = true → s.stimulus = w :: ws → w.getLsbD 3 = false →
    ∃ t, step s = .next t ∧ t.block.previousClock = w.getLsbD 1 ∧
      t.block.bitIndex.val =
        if s.block.previousClock = true ∧ w.getLsbD 1 = false then
          (if s.block.bitIndex.val = 10 then 0 else s.block.bitIndex.val + 1)
        else s.block.bitIndex.val

/-- R114, R122, R190: outside the stop bit's falling edge a step leaves the pending flags, `modifiers` and `keys` as they are and hands out no event. -/
def Obligations.OnlyAStopBitTouchesFlagsAndKeys : Prop :=
  ∀ (s : State) (w : StepWord) (ws : List StepWord), s.config.wf = true → s.stimulus = w :: ws → w.getLsbD 3 = false →
    ¬ (s.block.previousClock = true ∧ w.getLsbD 1 = false ∧ s.block.bitIndex = 10) →
    ∃ t, step s = .next t ∧ t.block.breakPending = s.block.breakPending ∧ t.block.extendedPending = s.block.extendedPending ∧
      t.block.modifiers = s.block.modifiers ∧ t.block.keys = s.block.keys ∧ t.result = .none

/-- R189: at most one slot or one modifier bit is written per step (rst = 0), and never both. -/
def Obligations.AtMostOneSlotOrModifierBitPerStep : Prop :=
  ∀ (s : State) (w : StepWord) (ws : List StepWord), s.config.wf = true → s.stimulus = w :: ws → w.getLsbD 3 = false →
    ∃ t, step s = .next t ∧
      ((t.block.modifiers = s.block.modifiers ∧
          ∃ i : Fin 6, ∀ j : Fin 6, j ≠ i → t.block.keys[j] = s.block.keys[j]) ∨
       (t.block.keys = s.block.keys ∧
          ∃ n : Fin 8, ∀ m : Fin 8, m ≠ n → t.block.modifiers.getLsbD m = s.block.modifiers.getLsbD m))

/-- R69, R181 to R183: the data level of a step matters only at a falling edge with `bit_index` in 1..8. -/
def Obligations.DataLevelMattersOnlyInDataBits : Prop :=
  ∀ (s : State) (l c d d' : Bool),
    ¬ (s.block.previousClock = true ∧ c = false ∧ 1 ≤ s.block.bitIndex.val ∧ s.block.bitIndex.val ≤ 8) →
    exec (.step l c d) s = exec (.step l c d') s

/-- R1, R193: nothing flows back from the tracker or the tables to the decoder. Two machines that agree on the decoder's elements and on the input agree on them,
and on the event, after the step, whatever their tables and keys are. -/
def Obligations.DecoderIgnoresTablesAndKeys : Prop :=
  ∀ (s s' : State) (w : StepWord) (ws ws' : List StepWord), s.config.wf = true → s'.config.wf = true →
    s.config.prevClkReset = s'.config.prevClkReset → s.stimulus = w :: ws → s'.stimulus = w :: ws' → SameDecoder s.block s'.block →
    ∃ t t', step s = .next t ∧ step s' = .next t' ∧ SameDecoder t.block t'.block ∧ t.result = t'.result

/-- R25, R64, R70, R171: the event ports are valid exactly in a step whose sampler operation is S.STOP with F.TERM, carry the byte and the flags from before the
clearing, and are 0 otherwise; the step hands out that event. -/
def Obligations.EventPortsShowTheTerminalScancode : Prop :=
  ∀ (s : State) (w : StepWord) (ws : List StepWord), s.config.wf = true → s.stimulus = w :: ws →
    (w.getLsbD 3 = false ∧ s.block.previousClock = true ∧ w.getLsbD 1 = false ∧ s.block.bitIndex = 10 ∧
        s.block.byteValue ≠ 0xF0#8 ∧ s.block.byteValue ≠ 0xE0#8 →
      s.block.eventPorts w = ⟨true, s.block.byteValue, s.block.breakPending, s.block.extendedPending⟩ ∧
      ∃ t, step s = .next t ∧ t.result = .event ⟨s.block.byteValue, s.block.breakPending, s.block.extendedPending⟩) ∧
    (¬ (w.getLsbD 3 = false ∧ s.block.previousClock = true ∧ w.getLsbD 1 = false ∧ s.block.bitIndex = 10 ∧
        s.block.byteValue ≠ 0xF0#8 ∧ s.block.byteValue ≠ 0xE0#8) →
      s.block.eventPorts w = ⟨false, 0x00#8, false, false⟩ ∧ ∃ t, step s = .next t ∧ t.result = .none)

/-- R162, R121, R131: in every well-formed configuration the plain scancode 0x12 is Left Shift. Its make sets bit 1 of `modifiers` and leaves the other bits and the
keys. -/
def Obligations.LeftShiftMakeSetsModifierBitOne : Prop :=
  ∀ (s : State) (l d : Bool), s.config.wf = true → s.block.previousClock = true → s.block.bitIndex = 10 → s.block.byteValue = 0x12#8 →
    s.block.breakPending = false → s.block.extendedPending = false →
    ∃ t, exec (.step l false d) s = .next t ∧ t.block.keys = s.block.keys ∧
      ∀ n : Fin 8, t.block.modifiers.getLsbD n = (s.block.modifiers.getLsbD n || decide (n = 1))

/-- R162, R121, R135: in every well-formed configuration the plain scancode 0x1C is an ordinary key ("A"). With six empty slots its make puts its identity into
slot 0 and sets `changed`. -/
def Obligations.MakeOfAPutsItsIdentityIntoTheFirstSlot : Prop :=
  ∀ (s : State) (l d : Bool), s.config.wf = true → s.block.previousClock = true → s.block.bitIndex = 10 → s.block.byteValue = 0x1C#8 →
    s.block.breakPending = false → s.block.extendedPending = false → (∀ i : Fin 6, s.block.keys[i] = 0x00#8) →
    ∃ t, exec (.step l false d) s = .next t ∧ t.block.modifiers = s.block.modifiers ∧ t.block.changed = true ∧
      t.block.keys = #v[Memory.read s.config.plainTable 0x1C, 0x00#8, 0x00#8, 0x00#8, 0x00#8, 0x00#8] ∧
      Memory.read s.config.plainTable 0x1C ≠ 0x00#8

/-! ## Invariants and runs -/

/-- R19 (I1 by the type of `bit_index`; I2, I3, I4) with R43: every step keeps the invariants, from every state that has them, for every input. -/
def Obligations.EveryStepKeepsTheInvariants : Prop :=
  ∀ s t : State, Inv s → step s = .next t → Inv t

/-- R27, R163: the state after reset has the invariants. That its parameters are the default ones is the model's choice (notes/assumptions/5.md). -/
def Obligations.ResetHasTheInvariants : Prop := Inv State.reset

/-- R19 (I5), R18, R49: in a run that starts with `changed = 0`, `changed = 1` at the end implies that some step of the run mutated `modifiers` or `keys`. -/
def Obligations.ChangedImpliesAMutationInTheRun : Prop :=
  ∀ (n : Nat) (s t : State), s.block.changed = false → Host.Core.run core n s = .next t → t.block.changed = true →
    ∃ k, k < n ∧ ∃ a b : State, Host.Core.run core k s = .next a ∧ step a = .next b ∧
      (b.block.modifiers ≠ a.block.modifiers ∨ b.block.keys ≠ a.block.keys)

/-- R100, R47: over any samples with rst = 0, `bit_index` counts the falling edges modulo 11, whatever the data levels are. -/
def Obligations.BitIndexCountsFallingEdgesModuloEleven : Prop :=
  ∀ (ws rest : List StepWord) (s : State), s.config.wf = true → s.stimulus = ws ++ rest → (∀ w ∈ ws, w.getLsbD 3 = false) →
    ∃ t : State, Host.Core.run core ws.length s = .next t ∧ t.stimulus = rest ∧
      t.block.bitIndex.val = (s.block.bitIndex.val + fallingEdges s.block.previousClock ws) % 11

/-- R93, R190: any number of samples without a falling edge, a clear or a reset changes nothing but `previous_clock`, inside a frame or between frames. -/
def Obligations.SamplesWithoutAFallingEdgeChangeNothing : Prop :=
  ∀ (ws rest : List StepWord) (s : State), s.config.wf = true → s.stimulus = ws ++ rest →
    (∀ w ∈ ws, w.getLsbD 3 = false ∧ w.getLsbD 2 = false) → fallingEdges s.block.previousClock ws = 0 →
    ∃ (t : State) (p : Bool), Host.Core.run core ws.length s = .next t ∧ t.stimulus = rest ∧ t.config = s.config ∧
      t.block = { s.block with previousClock := p }

/-- R100, R69, R210, R101: under LINK_WELL_SAMPLED eleven carried bits, from any state with `bit_index = 0`, deliver the byte of their data levels, whatever start,
parity and stop are and however the samples are stretched: the run ends where the stop bit's step alone would end from `byte_value = v`. -/
def Obligations.WellSampledFrameDeliversItsByte : Prop :=
  ∀ (s : State) (bits : List CarriedBit) (rest : List StepWord) (start parity stop : Bool) (v : Byte),
    s.config.wf = true → s.block.bitIndex = 0 → bits.map (·.level) = frameLevels start v parity stop →
    s.stimulus = bits.flatMap CarriedBit.samples ++ rest →
    ∃ t u : State, Host.Core.run core (bits.flatMap CarriedBit.samples).length s = .next t ∧
      exec (.step false false stop) { s with block := { s.block with bitIndex := 10, byteValue := v, previousClock := true } } = .next u ∧
      t.block = u.block ∧ t.stimulus = rest ∧ t.config = s.config ∧
      t.block.bitIndex = 0 ∧ t.block.byteValue = 0x00#8 ∧ t.block.previousClock = false

/-! ## Frame Decoder operations -/

/-- R93: S.NOEDGE records the clock level and does nothing else. -/
def Obligations.NoEdgeOnlyRecordsTheClock : Prop :=
  ∀ (i : BitVec 4) (d : Bool) (s : State),
    exec (.sNoedgeLow i d) s = .next { s with block := { s.block with previousClock := false }, result := .none } ∧
    exec (.sNoedgeRising i d) s = .next { s with block := { s.block with previousClock := true }, result := .none } ∧
    exec (.sNoedgeHigh i d) s = .next { s with block := { s.block with previousClock := true }, result := .none }

/-- R94, R96: S.START and S.PARITY advance `bit_index`; the data level has no effect. -/
def Obligations.StartAndParityOnlyAdvance : Prop :=
  ∀ (d : Bool) (s : State),
    exec (.sStart d) s = .next { s with block := { s.block with bitIndex := 1, previousClock := false }, result := .none } ∧
    exec (.sParity d) s = .next { s with block := { s.block with bitIndex := 10, previousClock := false }, result := .none }

/-- R95: S.DATA(n) puts the data level into bit n-1 of `byte_value`, keeps the other bits and every other element, and sets `bit_index` to n+1. -/
def Obligations.DataBitIsPutInItsPosition : Prop :=
  ∀ (d : Bool) (s : State) (n : Nat) (i : Instr),
    (n, i) ∈ [(1, Instr.sData1 d), (2, .sData2 d), (3, .sData3 d), (4, .sData4 d), (5, .sData5 d), (6, .sData6 d), (7, .sData7 d),
      (8, .sData8 d)] →
    ∃ (v : Byte) (k : Fin 11),
      exec i s = .next { s with block := { s.block with byteValue := v, bitIndex := k, previousClock := false }, result := .none } ∧
      k.val = n + 1 ∧ ∀ j : Nat, v.getLsbD j = if j = n - 1 then d else s.block.byteValue.getLsbD j

/-- R97: S.STOP resets the accumulator and runs the frame-byte operation of the byte it held: a break prefix, an extended prefix, or a terminal scancode, whose
event carries the flags from before the clearing. The stop level has no effect. -/
def Obligations.StopBitHandsOverTheFrameByte : Prop :=
  ∀ (d : Bool) (s : State),
    (s.block.byteValue = 0xF0#8 →
      exec (.sStop d) s = .next { s with
        block := { s.block with bitIndex := 0, byteValue := 0x00#8, previousClock := false, breakPending := true }, result := .none }) ∧
    (s.block.byteValue = 0xE0#8 →
      exec (.sStop d) s = .next { s with
        block := { s.block with bitIndex := 0, byteValue := 0x00#8, previousClock := false, extendedPending := true }, result := .none }) ∧
    (s.block.byteValue ≠ 0xF0#8 → s.block.byteValue ≠ 0xE0#8 →
      exec (.sStop d) s = .next { s with
        block := { s.block with bitIndex := 0, byteValue := 0x00#8, previousClock := false, breakPending := false, extendedPending := false },
        result := .event ⟨s.block.byteValue, s.block.breakPending, s.block.extendedPending⟩ })

/-- R110, R111, R112: the frame-byte operations. -/
def Obligations.FrameByteOperationsSetAndConsumeTheFlags : Prop :=
  ∀ (v : Byte) (s : State),
    exec .fBreak s = .next { s with block := { s.block with breakPending := true }, result := .none } ∧
    exec .fExt s = .next { s with block := { s.block with extendedPending := true }, result := .none } ∧
    exec (.fTerm v) s = .next { s with
      block := { s.block with breakPending := false, extendedPending := false },
      result := .event ⟨v, s.block.breakPending, s.block.extendedPending⟩ }

/-- R113, R63, R77: prefixes accumulate over any number of prefix bytes in any order (`true` a break prefix, `false` an extended one) and are consumed by the
terminal scancode; nothing else of the block changes. -/
def Obligations.PrefixesAccumulateUntilTheTerminalScancode : Prop :=
  ∀ (prefixes : List Bool) (v : Byte) (s : State),
    runInstrs (prefixes.map (fun p => if p then Instr.fBreak else Instr.fExt) ++ [.fTerm v]) s =
      .next { s with
        block := { s.block with breakPending := false, extendedPending := false },
        result := .event ⟨v, s.block.breakPending || prefixes.contains true, s.block.extendedPending || prefixes.contains false⟩ }

/-! ## Tables and tracker operations -/

/-- R120, R71, R41: T.LOOKUP hands out the entry of the table `is_extended` selects and writes no state. -/
def Obligations.LookupReadsTheSelectedTable : Prop :=
  ∀ (e : Bool) (c : Byte) (s : State),
    exec (.tLookup e c) s = .next { s with
      result := .identity (if e then Memory.read s.config.extTable c.toNat else Memory.read s.config.plainTable c.toNat) }

/-- R160, R161, R71: each of the 104 TABLE_ENTRY rows (every operation whose word has that format) reads the entry at its own 9-bit address `{is_extended, code}`
and writes no state (the row's operation is the read: notes/assumptions/13.md). With the default tables the entry is mapped. -/
def Obligations.TableEntryRowsReadTheirEntry : Prop :=
  ∀ (i : Instr) (s : State), (encode i).format = .tableEntry →
    ∃ id, exec i s = .next { s with result := .identity id } ∧
      id = Memory.read (if (encode i).bits.getLsbD 8 then s.config.extTable else s.config.plainTable) ((encode i).bits.toNat % 256) ∧
      (s.config = Config.standard → id ≠ 0x00#8)

/-- R163: no identity occurs twice over the two default tables. -/
def Obligations.DefaultTablesAreInjective : Prop :=
  ∀ (e e' : Bool) (c c' : Byte), Config.standard.lookup e c ≠ 0x00#8 → Config.standard.lookup e c = Config.standard.lookup e' c' →
    e = e' ∧ c = c'

/-- R42: the classes of the identity space, for every well-formed configuration: each sentinel is the modifier it stands for, `SENT_CAPS` is Caps Lock, 0 is
unmapped, the ordinary range is ordinary, and every other value is reserved. -/
def Obligations.IdentityClassesAreTheOnesOfR42 : Prop :=
  ∀ (cfg : Config) (id : Byte), cfg.wf = true →
    (cfg.classify id = .unmapped ↔ id = 0x00#8) ∧
    (∀ n : Fin 8, cfg.classify id = .modifier n ↔ id = cfg.sentMod[n]) ∧
    (cfg.classify id = .capsLock ↔ id = cfg.sentCaps) ∧
    (cfg.classify id = .ordinary ↔ cfg.inOrdinaryRange id = true) ∧
    (cfg.classify id = .reserved ↔
      id ≠ 0x00#8 ∧ (∀ n : Fin 8, id ≠ cfg.sentMod[n]) ∧ id ≠ cfg.sentCaps ∧ cfg.inOrdinaryRange id = false)

/-- R130, R184: K.UNMAPPED changes nothing of the block. -/
def Obligations.UnmappedEventChangesNothing : Prop :=
  ∀ (b : Bool) (s : State), exec (.kUnmapped b) s = .next { s with result := .none }

/-- R131: MOD.PRESS(n) sets bit n and keeps the others; `changed` is set exactly on a 0 to 1 transition; nothing else changes. -/
def Obligations.ModifierPressSetsItsBit : Prop :=
  ∀ (n : Fin 8) (s : State), ∃ v : Byte,
    exec (.modPress n) s = .next { s with
      block := { s.block with modifiers := v, changed := s.block.changed || !s.block.modifiers.getLsbD n }, result := .none } ∧
    ∀ m : Fin 8, v.getLsbD m = (s.block.modifiers.getLsbD m || decide (m = n))

/-- R132: MOD.RELEASE(n) clears bit n and keeps the others; `changed` is set exactly on a 1 to 0 transition; nothing else changes. -/
def Obligations.ModifierReleaseClearsItsBit : Prop :=
  ∀ (n : Fin 8) (s : State), ∃ v : Byte,
    exec (.modRelease n) s = .next { s with
      block := { s.block with modifiers := v, changed := s.block.changed || s.block.modifiers.getLsbD n }, result := .none } ∧
    ∀ m : Fin 8, v.getLsbD m = (s.block.modifiers.getLsbD m && !decide (m = n))

/-- R135, R185: ORD.PRESS(id) does nothing for a held key, nothing with six slots full, and otherwise stores the identity in the first empty slot and sets
`changed`; the other slots and every other element keep their values. -/
def Obligations.OrdinaryPressTakesTheFirstEmptySlot : Prop :=
  ∀ (id : Byte) (s : State),
    ((∃ i : Fin 6, s.block.keys[i] = id) → exec (.ordPress id) s = .next { s with result := .none }) ∧
    ((∀ i : Fin 6, s.block.keys[i] ≠ id) → (∀ i : Fin 6, s.block.keys[i] ≠ 0x00#8) →
      exec (.ordPress id) s = .next { s with result := .none }) ∧
    (∀ e : Fin 6, (∀ i : Fin 6, s.block.keys[i] ≠ id) → s.block.keys[e] = 0x00#8 → (∀ j : Fin 6, j < e → s.block.keys[j] ≠ 0x00#8) →
      ∃ k : Vector Byte 6,
        exec (.ordPress id) s = .next { s with block := { s.block with keys := k, changed := true }, result := .none } ∧
        k[e] = id ∧ ∀ j : Fin 6, j ≠ e → k[j] = s.block.keys[j])

/-- R136, R186: ORD.RELEASE(id) empties the first slot that holds the identity and sets `changed`, moving no other slot; for a key in no slot it does nothing. -/
def Obligations.OrdinaryReleaseEmptiesTheMatchingSlot : Prop :=
  ∀ (id : Byte) (s : State),
    ((∀ i : Fin 6, s.block.keys[i] ≠ id) → exec (.ordRelease id) s = .next { s with result := .none }) ∧
    (∀ m : Fin 6, s.block.keys[m] = id → (∀ j : Fin 6, j < m → s.block.keys[j] ≠ id) →
      ∃ k : Vector Byte 6,
        exec (.ordRelease id) s = .next { s with block := { s.block with keys := k, changed := true }, result := .none } ∧
        k[m] = 0x00#8 ∧ ∀ j : Fin 6, j ≠ m → k[j] = s.block.keys[j])

/-- R133, R134: the Caps Lock operations are the ordinary ones on `ID_CAPSLOCK`, and complete from every state. -/
def Obligations.CapsLockActsAsItsOrdinaryKey : Prop :=
  ∀ s : State,
    (∃ t, exec .capsPress s = .next t ∧ exec (.ordPress s.config.idCapsLock) s = .next t) ∧
    (∃ t, exec .capsRelease s = .next t ∧ exec (.ordRelease s.config.idCapsLock) s = .next t)

/-- R137: a tracker operation sets `changed` exactly when it changed `modifiers` or a slot, and never clears it. -/
def Obligations.TrackerSetsChangedExactlyOnAMutation : Prop :=
  ∀ (i : Instr) (s t : State), s.config.wf = true → i.wf = true →
    ((∃ b, i = .kUnmapped b) ∨ (∃ n, i = .modPress n) ∨ (∃ n, i = .modRelease n) ∨ i = .capsPress ∨ i = .capsRelease ∨
      (∃ id, i = .ordPress id) ∨ (∃ id, i = .ordRelease id)) →
    exec i s = .next t →
    t.block.changed = (s.block.changed || (t.block.modifiers != s.block.modifiers || t.block.keys != s.block.keys))

/-- R138 (P1): the second of two identical presses changes nothing. -/
def Obligations.RepeatedPressChangesNothing : Prop :=
  ∀ (i : Instr) (s t : State), ((∃ n, i = .modPress n) ∨ i = .capsPress ∨ (∃ id, i = .ordPress id)) →
    exec i s = .next t → exec i t = .next t

/-- R138 (P2), R186: the release of a key that is not held changes nothing, so it does not set `changed`. -/
def Obligations.ReleaseOfAnUntrackedKeyChangesNothing : Prop :=
  ∀ s : State,
    (∀ n : Fin 8, s.block.modifiers.getLsbD n = false → exec (.modRelease n) s = .next { s with result := .none }) ∧
    (∀ id : Byte, (∀ i : Fin 6, s.block.keys[i] ≠ id) → exec (.ordRelease id) s = .next { s with result := .none }) ∧
    ((∀ i : Fin 6, s.block.keys[i] ≠ s.config.idCapsLock) → exec .capsRelease s = .next { s with result := .none })

/-- R138 (P4), R185: seven distinct ordinary keys pressed from six empty slots leave the first six in slots 0 to 5, in order; the seventh changes nothing. -/
def Obligations.SevenKeysLeaveTheFirstSix : Prop :=
  ∀ (s : State) (ids : Vector Byte 7), (∀ i j : Fin 7, ids[i] = ids[j] → i = j) → (∀ i : Fin 7, ids[i] ≠ 0x00#8) →
    (∀ i : Fin 6, s.block.keys[i] = 0x00#8) →
    runInstrs (ids.toList.map Instr.ordPress) s = .next { s with
      block := { s.block with keys := #v[ids[0], ids[1], ids[2], ids[3], ids[4], ids[5]], changed := true }, result := .none }

/-- R138 (P5), with the condition of 90_conflicts.md C4: press then release of a key that is not held restores `keys` and `modifiers`; `changed` is 1 afterwards if
the press took effect and unchanged if it was dropped. -/
def Obligations.PressThenReleaseRestoresTheState : Prop :=
  ∀ s : State,
    (∀ n : Fin 8, s.block.modifiers.getLsbD n = false →
      runInstrs [.modPress n, .modRelease n] s = .next { s with block := { s.block with changed := true }, result := .none }) ∧
    (∀ id : Byte, id ≠ 0x00#8 → (∀ i : Fin 6, s.block.keys[i] ≠ id) → (∃ i : Fin 6, s.block.keys[i] = 0x00#8) →
      runInstrs [.ordPress id, .ordRelease id] s = .next { s with block := { s.block with changed := true }, result := .none }) ∧
    (∀ id : Byte, (∀ i : Fin 6, s.block.keys[i] ≠ id) → (∀ i : Fin 6, s.block.keys[i] ≠ 0x00#8) →
      runInstrs [.ordPress id, .ordRelease id] s = .next { s with result := .none })

/-- 90_conflicts.md C4, R138: press then release of a key that IS held removes it. -/
def Obligations.PressThenReleaseOfAHeldKeyRemovesIt : Prop :=
  ∀ (s : State) (id : Byte), KeysDistinct s.block → id ≠ 0x00#8 → (∃ i : Fin 6, s.block.keys[i] = id) →
    ∃ t, runInstrs [.ordPress id, .ordRelease id] s = .next t ∧ ∀ i : Fin 6, t.block.keys[i] ≠ id

/-! ## Report boundary, initialisation, and rules about all operations -/

/-- R150, R151, R152, R154, R46: the queries hand out the registers of one state, slot order kept, and change nothing; reading does not clear `changed`. -/
def Obligations.QueriesHandOutTheRegisters : Prop :=
  ∀ s : State,
    exec .getModifiers s = .next { s with result := .modifiers s.block.modifiers } ∧
    exec .getKeys s = .next { s with result := .keys s.block.keys } ∧
    exec .hasChanged s = .next { s with result := .changed s.block.changed } ∧
    ∃ r : Vector Byte 8, exec .report s = .next { s with result := .report r } ∧
      r[0] = s.block.modifiers ∧ r[1] = 0x00#8 ∧ ∀ (i : Nat) (h : i < 6), r[2 + i] = s.block.keys[i]

/-- R153: CLEAR_CHANGED, the operation, clears `changed` and touches nothing else (that it yields to a mutation of its own step is
ChangedIsResolvedAfterTheMutation). -/
def Obligations.ClearChangedTouchesNothingElse : Prop :=
  ∀ (c d : Bool) (s : State), exec (.clearChanged c d) s = .next { s with block := { s.block with changed := false }, result := .none }

/-- R173, R174: INIT_LINK puts the decoder's elements to their reset values, INIT_STATE the tracker's, and neither touches the other's. -/
def Obligations.InitialisationsResetTheirOwnComponent : Prop :=
  ∀ (l c d : Bool) (s : State),
    exec (.initLink l c d) s = .next { s with
      block := { s.block with bitIndex := 0, byteValue := 0x00#8, previousClock := s.config.prevClkReset, breakPending := false, extendedPending := false },
      result := .none } ∧
    exec (.initState l c d) s = .next { s with
      block := { s.block with modifiers := 0x00#8, keys := #v[0x00#8, 0x00#8, 0x00#8, 0x00#8, 0x00#8, 0x00#8], changed := false },
      result := .none }

/-- R74, R76: the rows without a behaviour stop, each under its own name. -/
def Obligations.ReservedRowsStop : Prop :=
  ∀ (p c d b : Bool) (id : Byte) (s : State),
    exec (.reservedBitIndex11 p c d) s = .refused (.reservedBitIndex 11) ∧
    exec (.reservedBitIndex12 p c d) s = .refused (.reservedBitIndex 12) ∧
    exec (.reservedBitIndex13 p c d) s = .refused (.reservedBitIndex 13) ∧
    exec (.reservedBitIndex14 p c d) s = .refused (.reservedBitIndex 14) ∧
    exec (.reservedBitIndex15 p c d) s = .refused (.reservedBitIndex 15) ∧
    exec (.reservedIdent b id) s = .refused (.reservedIdentity id)

/-- R52, R3: no operation, whatever it is, writes the tables or the other parameters, or takes an input. -/
def Obligations.NoOperationWritesTheParameters : Prop :=
  ∀ (i : Instr) (s t : State), exec i s = .next t → t.config = s.config ∧ t.stimulus = s.stimulus

/-- R20: the access table. An operation that changes an element is one of the element's writers (S.STOP performs the frame-byte operation, and STEP the operations
it composes). -/
def Obligations.WritersAreThoseOfTheAccessTable : Prop :=
  ∀ (i : Instr) (s t : State), exec i s = .next t → (∀ l c d, i ≠ .step l c d) →
    (t.block.bitIndex ≠ s.block.bitIndex →
      (∃ d, i = .sStart d ∨ i = .sData1 d ∨ i = .sData2 d ∨ i = .sData3 d ∨ i = .sData4 d ∨ i = .sData5 d ∨ i = .sData6 d ∨ i = .sData7 d ∨
        i = .sData8 d ∨ i = .sParity d ∨ i = .sStop d) ∨ ∃ l c d, i = .initLink l c d) ∧
    (t.block.byteValue ≠ s.block.byteValue →
      (∃ d, i = .sData1 d ∨ i = .sData2 d ∨ i = .sData3 d ∨ i = .sData4 d ∨ i = .sData5 d ∨ i = .sData6 d ∨ i = .sData7 d ∨ i = .sData8 d ∨
        i = .sStop d) ∨ ∃ l c d, i = .initLink l c d) ∧
    (t.block.previousClock ≠ s.block.previousClock → (encode i).format = .sampler ∨ ∃ l c d, i = .initLink l c d) ∧
    (t.block.breakPending ≠ s.block.breakPending → i = .fBreak ∨ (∃ v, i = .fTerm v) ∨ (∃ d, i = .sStop d) ∨ ∃ l c d, i = .initLink l c d) ∧
    (t.block.extendedPending ≠ s.block.extendedPending → i = .fExt ∨ (∃ v, i = .fTerm v) ∨ (∃ d, i = .sStop d) ∨ ∃ l c d, i = .initLink l c d) ∧
    (t.block.modifiers ≠ s.block.modifiers → (∃ n, i = .modPress n ∨ i = .modRelease n) ∨ ∃ l c d, i = .initState l c d) ∧
    (t.block.keys ≠ s.block.keys →
      (∃ id, i = .ordPress id ∨ i = .ordRelease id) ∨ i = .capsPress ∨ i = .capsRelease ∨ ∃ l c d, i = .initState l c d) ∧
    (t.block.changed ≠ s.block.changed →
      (t.block.changed = true ∧ ((∃ n, i = .modPress n ∨ i = .modRelease n) ∨ (∃ id, i = .ordPress id ∨ i = .ordRelease id) ∨
        i = .capsPress ∨ i = .capsRelease)) ∨
      (t.block.changed = false ∧ ((∃ c d, i = .clearChanged c d) ∨ ∃ l c d, i = .initState l c d)))
end

