-- ==== Sys2Proof/Laws/Memory.lean ====
section
/-! SUPPORT. The laws of the tables: a read after a write to the same place gives the value written, a write leaves every other place alone, and every table
operation keeps the canonical form. -/

namespace Sys2Proof

theorem Memory.risingFrom_le {lo lo' : Nat} {m : Memory} (hle : lo' ≤ lo) (h : Memory.risingFrom lo m = true) :
    Memory.risingFrom lo' m = true := by
  cases m with
  | nil => rfl
  | cons cell m =>
    simp only [Memory.risingFrom, Bool.and_eq_true, decide_eq_true_eq] at h ⊢
    exact ⟨by omega, h.2⟩

/-- An address below every entry reads as unlisted. -/
theorem Memory.read_below {lo a : Nat} {m : Memory} (h : Memory.risingFrom lo m = true) (ha : a < lo) :
    Memory.read m a = Memory.unlisted := by
  induction m generalizing lo with
  | nil => rfl
  | cons cell m ih =>
    simp only [Memory.risingFrom, Bool.and_eq_true, decide_eq_true_eq] at h
    have hne : cell.1 ≠ a := by omega
    simp only [Memory.read, hne, if_false]
    exact ih h.2 (by omega)

theorem Memory.read_erase {lo : Nat} {m : Memory} (h : Memory.risingFrom lo m = true) (a x : Nat) :
    Memory.read (Memory.erase m a) x = if x = a then Memory.unlisted else Memory.read m x := by
  induction m generalizing lo with
  | nil => simp [Memory.erase, Memory.read]
  | cons cell m ih =>
    simp only [Memory.risingFrom, Bool.and_eq_true, decide_eq_true_eq] at h
    simp only [Memory.erase]
    by_cases hk : cell.1 = a
    · rw [if_pos hk]
      by_cases hx : x = a
      · rw [if_pos hx]
        exact Memory.read_below h.2 (by omega)
      · have : cell.1 ≠ x := by omega
        simp [Memory.read, hx, this]
    · rw [if_neg hk]
      by_cases hx : cell.1 = x
      · have : x ≠ a := by omega
        simp [Memory.read, hx, this]
      · simp [Memory.read, hx, ih h.2]

theorem Memory.read_insert {lo : Nat} {m : Memory} (h : Memory.risingFrom lo m = true) (a : Nat) (v : Byte) (x : Nat) :
    Memory.read (Memory.insert m a v) x = if x = a then v else Memory.read m x := by
  induction m generalizing lo with
  | nil =>
    by_cases hx : x = a
    · simp [Memory.insert, Memory.read, hx]
    · simp [Memory.insert, Memory.read, hx, Ne.symm hx]
  | cons cell m ih =>
    simp only [Memory.risingFrom, Bool.and_eq_true, decide_eq_true_eq] at h
    simp only [Memory.insert]
    by_cases hlt : a < cell.1
    · rw [if_pos hlt]
      by_cases hx : x = a
      · simp [Memory.read, hx]
      · simp [Memory.read, hx, Ne.symm hx]
    · rw [if_neg hlt]
      by_cases hk : cell.1 = a
      · rw [if_pos hk]
        by_cases hx : x = a
        · simp [Memory.read, hx]
        · have : cell.1 ≠ x := by omega
          simp [Memory.read, hx, Ne.symm hx, this]
      · rw [if_neg hk]
        by_cases hx : cell.1 = x
        · have : x ≠ a := by omega
          simp [Memory.read, hx, this]
        · simp [Memory.read, hx, ih h.2]

/-- One read after one write, for a table in canonical form. -/
theorem Memory.read_write {m : Memory} (h : Memory.wf m = true) (a : Nat) (v : Byte) (x : Nat) :
    Memory.read (Memory.write m a v) x = if x = a then v else Memory.read m x := by
  simp only [Memory.wf, Bool.and_eq_true] at h
  unfold Memory.write
  split
  · rename_i hv
    rw [Memory.read_erase h.1, hv]
  · exact Memory.read_insert h.1 a v x

theorem Memory.risingFrom_erase {lo : Nat} {m : Memory} (h : Memory.risingFrom lo m = true) (a : Nat) :
    Memory.risingFrom lo (Memory.erase m a) = true := by
  induction m generalizing lo with
  | nil => rfl
  | cons cell m ih =>
    simp only [Memory.risingFrom, Bool.and_eq_true, decide_eq_true_eq] at h
    simp only [Memory.erase]
    split
    · exact Memory.risingFrom_le (by omega) h.2
    · simp only [Memory.risingFrom, Bool.and_eq_true, decide_eq_true_eq]
      exact ⟨h.1, ih h.2⟩

theorem Memory.risingFrom_insert {lo : Nat} {m : Memory} (h : Memory.risingFrom lo m = true) {a : Nat} (ha : lo ≤ a) (v : Byte) :
    Memory.risingFrom lo (Memory.insert m a v) = true := by
  induction m generalizing lo with
  | nil => simp [Memory.insert, Memory.risingFrom, ha]
  | cons cell m ih =>
    simp only [Memory.risingFrom, Bool.and_eq_true, decide_eq_true_eq] at h
    simp only [Memory.insert]
    split
    · simp only [Memory.risingFrom, Bool.and_eq_true, decide_eq_true_eq]
      exact ⟨ha, by omega, h.2⟩
    · split
      · rename_i hk
        simp only [Memory.risingFrom, Bool.and_eq_true, decide_eq_true_eq]
        exact ⟨ha, hk ▸ h.2⟩
      · simp only [Memory.risingFrom, Bool.and_eq_true, decide_eq_true_eq]
        exact ⟨h.1, ih h.2 (by omega)⟩

theorem Memory.mem_erase {m : Memory} {a : Nat} {cell : Host.Cell} (h : cell ∈ Memory.erase m a) : cell ∈ m := by
  induction m with
  | nil => exact h
  | cons c m ih =>
    simp only [Memory.erase] at h
    split at h
    · exact List.mem_cons_of_mem _ h
    · rcases List.mem_cons.mp h with h | h
      · exact h ▸ List.mem_cons_self
      · exact List.mem_cons_of_mem _ (ih h)

theorem Memory.mem_insert {m : Memory} {a : Nat} {v : Byte} {cell : Host.Cell} (h : cell ∈ Memory.insert m a v) :
    cell = (a, v) ∨ cell ∈ m := by
  induction m with
  | nil => simpa [Memory.insert] using h
  | cons c m ih =>
    simp only [Memory.insert] at h
    split at h
    · simpa using h
    · split at h
      · rcases List.mem_cons.mp h with h | h
        · exact .inl h
        · exact .inr (List.mem_cons_of_mem _ h)
      · rcases List.mem_cons.mp h with h | h
        · exact .inr (h ▸ List.mem_cons_self)
        · exact (ih h).imp id (List.mem_cons_of_mem _)

/-- A write keeps the canonical form. -/
theorem Memory.wf_write {m : Memory} (h : Memory.wf m = true) {a : Nat} (ha : a < 256) (v : Byte) :
    Memory.wf (Memory.write m a v) = true := by
  simp only [Memory.wf, Bool.and_eq_true, List.all_eq_true, decide_eq_true_eq] at h ⊢
  unfold Memory.write
  split
  · exact ⟨Memory.risingFrom_erase h.1 a, fun cell hc => h.2 cell (Memory.mem_erase hc)⟩
  · rename_i hv
    refine ⟨Memory.risingFrom_insert h.1 (Nat.zero_le a) v, fun cell hc => ?_⟩
    rcases Memory.mem_insert hc with rfl | hc
    · exact ⟨ha, hv⟩
    · exact h.2 cell hc

/-- What a read gives is unlisted or the value of an entry. -/
theorem Memory.read_cases (m : Memory) (a : Nat) :
    Memory.read m a = Memory.unlisted ∨ ∃ cell ∈ m, cell.2 = Memory.read m a := by
  induction m with
  | nil => exact .inl rfl
  | cons c m ih =>
    simp only [Memory.read]
    split
    · exact .inr ⟨c, List.mem_cons_self, rfl⟩
    · rcases ih with h | ⟨cell, hc, hv⟩
      · exact .inl h
      · exact .inr ⟨cell, List.mem_cons_of_mem _ hc, hv⟩

/-- The default tables are in canonical form. -/
theorem defaultPlainTable_wf : Memory.wf defaultPlainTable = true := by decide

theorem defaultExtTable_wf : Memory.wf defaultExtTable = true := by decide

end Sys2Proof
end

