-- ==== Sys2Proof/Laws/Config.lean ====
section
/-! SUPPORT. The identity classes and what a well-formed configuration gives (R42, R43). -/

namespace Sys2Proof

/-- The default parameters are well-formed (R163). -/
theorem Config.standard_wf : Config.standard.wf = true := by decide

theorem Config.classify_zero (cfg : Config) : cfg.classify 0x00#8 = .unmapped := by simp [Config.classify]

theorem Config.modifierOf_some {cfg : Config} {id : Byte} {n : Fin 8} (h : cfg.modifierOf id = some n) : cfg.sentMod[n] = id := by
  simpa [Config.modifierOf] using List.find?_some h

theorem Config.modifierOf_none {cfg : Config} {id : Byte} (h : cfg.modifierOf id = none) (n : Fin 8) : cfg.sentMod[n] ≠ id := by
  have hn : n ∈ ([0, 1, 2, 3, 4, 5, 6, 7] : List (Fin 8)) := by revert n; decide
  have := List.find?_eq_none.mp h n hn
  simpa using this

/-- The class of an identity, said once. -/
theorem Config.classify_cases (cfg : Config) (id : Byte) :
    (id = 0x00#8 ∧ cfg.classify id = .unmapped) ∨
    (id ≠ 0x00#8 ∧ ∃ n, cfg.sentMod[n] = id ∧ cfg.classify id = .modifier n) ∨
    (id ≠ 0x00#8 ∧ (∀ n : Fin 8, cfg.sentMod[n] ≠ id) ∧ id = cfg.sentCaps ∧ cfg.classify id = .capsLock) ∨
    (id ≠ 0x00#8 ∧ (∀ n : Fin 8, cfg.sentMod[n] ≠ id) ∧ id ≠ cfg.sentCaps ∧ cfg.inOrdinaryRange id = true ∧ cfg.classify id = .ordinary) ∨
    (id ≠ 0x00#8 ∧ (∀ n : Fin 8, cfg.sentMod[n] ≠ id) ∧ id ≠ cfg.sentCaps ∧ cfg.inOrdinaryRange id = false ∧ cfg.classify id = .reserved) := by
  unfold Config.classify
  by_cases h0 : id = 0x00#8
  · exact .inl ⟨h0, by simp [h0]⟩
  · refine .inr ?_
    cases hm : cfg.modifierOf id with
    | some n => exact .inl ⟨h0, n, Config.modifierOf_some hm, by simp [h0]⟩
    | none =>
      have hn := Config.modifierOf_none hm
      refine .inr ?_
      by_cases hc : id = cfg.sentCaps
      · exact .inl ⟨h0, hn, hc, by rw [if_neg h0]; simp [hc]⟩
      · refine .inr ?_
        cases ho : cfg.inOrdinaryRange id with
        | true => exact .inl ⟨h0, hn, hc, rfl, by simp [h0, hc]⟩
        | false => exact .inr ⟨h0, hn, hc, rfl, by simp [h0, hc]⟩

/-- An ordinary identity is non-zero and no sentinel. -/
theorem Config.classify_ordinary {cfg : Config} {id : Byte} (h : cfg.classify id = .ordinary) :
    id ≠ 0x00#8 ∧ id ∉ cfg.sentinels ∧ cfg.inOrdinaryRange id = true := by
  rcases Config.classify_cases cfg id with ⟨_, hc⟩ | ⟨_, n, _, hc⟩ | ⟨_, _, _, hc⟩ | ⟨h0, hn, hs, ho, _⟩ | ⟨_, _, _, _, hc⟩
  · rw [hc] at h; cases h
  · rw [hc] at h; cases h
  · rw [hc] at h; cases h
  · refine ⟨h0, ?_, ho⟩
    simp only [Config.sentinels, List.mem_append, List.mem_singleton, not_or, Vector.mem_toList_iff]
    refine ⟨fun hmem => ?_, hs⟩
    obtain ⟨i, hi, he⟩ := Vector.mem_iff_getElem.mp hmem
    exact hn ⟨i, hi⟩ he
  · rw [hc] at h; cases h

section WellFormed

variable {cfg : Config}

theorem Config.wf_parts (h : cfg.wf = true) :
    Memory.wf cfg.plainTable = true ∧ Memory.wf cfg.extTable = true ∧ cfg.noReservedEntry = true ∧ cfg.sentinelsApart = true ∧
    cfg.capsIdentityOrdinary = true ∧ cfg.zeroUnmapped = true ∧ cfg.fixedEntries = true := by
  simp only [Config.wf, Bool.and_eq_true] at h
  obtain ⟨⟨⟨⟨⟨⟨h1, h2⟩, h3⟩, h4⟩, h5⟩, h6⟩, h7⟩ := h
  exact ⟨h1, h2, h3, h4, h5, h6, h7⟩

/-- No look-up of a well-formed configuration gives a reserved identity (W1). -/
theorem Config.lookup_not_reserved (h : cfg.wf = true) (e : Bool) (code : Byte) : cfg.classify (cfg.lookup e code) ≠ .reserved := by
  obtain ⟨_, _, h1, _⟩ := Config.wf_parts h
  simp only [Config.noReservedEntry, List.all_eq_true, bne_iff_ne] at h1
  unfold Config.lookup
  rcases Memory.read_cases (if e then cfg.extTable else cfg.plainTable) code.toNat with hz | ⟨cell, hc, hv⟩
  · rw [hz, show Memory.unlisted = 0x00#8 from rfl, Config.classify_zero]; decide
  · rw [← hv]
    refine h1 cell ?_
    cases e with
    | true => exact List.mem_append_right _ hc
    | false => exact List.mem_append_left _ hc

/-- `ID_CAPSLOCK` is non-zero, no sentinel and in the ordinary range (W3). -/
theorem Config.caps_identity (h : cfg.wf = true) : cfg.idCapsLock ≠ 0x00#8 ∧ cfg.idCapsLock ∉ cfg.sentinels ∧ cfg.inOrdinaryRange cfg.idCapsLock = true := by
  obtain ⟨_, _, _, _, h5, _, _⟩ := Config.wf_parts h
  simpa [Config.capsIdentityOrdinary, and_assoc] using h5

/-- A sentinel is non-zero (W2), so an empty slot holds none. -/
theorem Config.zero_not_sentinel (h : cfg.wf = true) : 0x00#8 ∉ cfg.sentinels := by
  obtain ⟨_, _, _, h4, _, _, _⟩ := Config.wf_parts h
  simp only [Config.sentinelsApart, Bool.and_eq_true, List.all_eq_true, decide_eq_true_eq] at h4
  intro hm
  exact (h4.2 _ hm).1 rfl

end WellFormed

end Sys2Proof
end

