-- ==== Sys2Proof/Laws/State.lean ====
section
/-! SUPPORT. One lemma per field per update, true by rfl, so that no later proof unfolds a record update. -/

namespace Sys2Proof.Machine

variable (s : State) (b : Block) (r : Result)

@[simp] theorem State.finish_block : (s.finish b r).block = b := rfl
@[simp] theorem State.finish_config : (s.finish b r).config = s.config := rfl
@[simp] theorem State.finish_stimulus : (s.finish b r).stimulus = s.stimulus := rfl
@[simp] theorem State.finish_result : (s.finish b r).result = r := rfl
@[simp] theorem consume_block : (consume s).block = s.block := rfl
@[simp] theorem consume_config : (consume s).config = s.config := rfl
@[simp] theorem consume_stimulus : (consume s).stimulus = s.stimulus.tail := rfl
@[simp] theorem consume_result : (consume s).result = s.result := rfl
@[simp] theorem nextWord_nil (h : s.stimulus = []) : nextWord s = idleWord := by simp [nextWord, h]
theorem nextWord_cons {w : StepWord} {ws : List StepWord} (h : s.stimulus = w :: ws) : nextWord s = w := by simp [nextWord, h]

@[simp] theorem noEdge_bitIndex (c : Bool) : (noEdge c b).bitIndex = b.bitIndex := rfl
@[simp] theorem noEdge_byteValue (c : Bool) : (noEdge c b).byteValue = b.byteValue := rfl
@[simp] theorem noEdge_previousClock (c : Bool) : (noEdge c b).previousClock = c := rfl
@[simp] theorem noEdge_breakPending (c : Bool) : (noEdge c b).breakPending = b.breakPending := rfl
@[simp] theorem noEdge_extendedPending (c : Bool) : (noEdge c b).extendedPending = b.extendedPending := rfl
@[simp] theorem noEdge_modifiers (c : Bool) : (noEdge c b).modifiers = b.modifiers := rfl
@[simp] theorem noEdge_keys (c : Bool) : (noEdge c b).keys = b.keys := rfl
@[simp] theorem noEdge_changed (c : Bool) : (noEdge c b).changed = b.changed := rfl
@[simp] theorem startBit_bitIndex : (startBit b).bitIndex = 1 := rfl
@[simp] theorem startBit_byteValue : (startBit b).byteValue = b.byteValue := rfl
@[simp] theorem startBit_previousClock : (startBit b).previousClock = false := rfl
@[simp] theorem startBit_breakPending : (startBit b).breakPending = b.breakPending := rfl
@[simp] theorem startBit_extendedPending : (startBit b).extendedPending = b.extendedPending := rfl
@[simp] theorem startBit_modifiers : (startBit b).modifiers = b.modifiers := rfl
@[simp] theorem startBit_keys : (startBit b).keys = b.keys := rfl
@[simp] theorem startBit_changed : (startBit b).changed = b.changed := rfl
@[simp] theorem dataBit_bitIndex (n : Nat) (d : Bool) : (dataBit n d b).bitIndex = Fin.ofNat 11 (n + 1) := rfl
@[simp] theorem dataBit_byteValue (n : Nat) (d : Bool) : (dataBit n d b).byteValue = putBit b.byteValue (n - 1) d := rfl
@[simp] theorem dataBit_previousClock (n : Nat) (d : Bool) : (dataBit n d b).previousClock = false := rfl
@[simp] theorem dataBit_breakPending (n : Nat) (d : Bool) : (dataBit n d b).breakPending = b.breakPending := rfl
@[simp] theorem dataBit_extendedPending (n : Nat) (d : Bool) : (dataBit n d b).extendedPending = b.extendedPending := rfl
@[simp] theorem dataBit_modifiers (n : Nat) (d : Bool) : (dataBit n d b).modifiers = b.modifiers := rfl
@[simp] theorem dataBit_keys (n : Nat) (d : Bool) : (dataBit n d b).keys = b.keys := rfl
@[simp] theorem dataBit_changed (n : Nat) (d : Bool) : (dataBit n d b).changed = b.changed := rfl
@[simp] theorem parityBit_bitIndex : (parityBit b).bitIndex = 10 := rfl
@[simp] theorem parityBit_byteValue : (parityBit b).byteValue = b.byteValue := rfl
@[simp] theorem parityBit_previousClock : (parityBit b).previousClock = false := rfl
@[simp] theorem parityBit_breakPending : (parityBit b).breakPending = b.breakPending := rfl
@[simp] theorem parityBit_extendedPending : (parityBit b).extendedPending = b.extendedPending := rfl
@[simp] theorem parityBit_modifiers : (parityBit b).modifiers = b.modifiers := rfl
@[simp] theorem parityBit_keys : (parityBit b).keys = b.keys := rfl
@[simp] theorem parityBit_changed : (parityBit b).changed = b.changed := rfl
@[simp] theorem breakByte_bitIndex : (breakByte b).bitIndex = b.bitIndex := rfl
@[simp] theorem breakByte_byteValue : (breakByte b).byteValue = b.byteValue := rfl
@[simp] theorem breakByte_previousClock : (breakByte b).previousClock = b.previousClock := rfl
@[simp] theorem breakByte_breakPending : (breakByte b).breakPending = true := rfl
@[simp] theorem breakByte_extendedPending : (breakByte b).extendedPending = b.extendedPending := rfl
@[simp] theorem breakByte_modifiers : (breakByte b).modifiers = b.modifiers := rfl
@[simp] theorem breakByte_keys : (breakByte b).keys = b.keys := rfl
@[simp] theorem breakByte_changed : (breakByte b).changed = b.changed := rfl
@[simp] theorem extByte_bitIndex : (extByte b).bitIndex = b.bitIndex := rfl
@[simp] theorem extByte_byteValue : (extByte b).byteValue = b.byteValue := rfl
@[simp] theorem extByte_previousClock : (extByte b).previousClock = b.previousClock := rfl
@[simp] theorem extByte_breakPending : (extByte b).breakPending = b.breakPending := rfl
@[simp] theorem extByte_extendedPending : (extByte b).extendedPending = true := rfl
@[simp] theorem extByte_modifiers : (extByte b).modifiers = b.modifiers := rfl
@[simp] theorem extByte_keys : (extByte b).keys = b.keys := rfl
@[simp] theorem extByte_changed : (extByte b).changed = b.changed := rfl
@[simp] theorem clearFlag_bitIndex : (clearFlag b).bitIndex = b.bitIndex := rfl
@[simp] theorem clearFlag_byteValue : (clearFlag b).byteValue = b.byteValue := rfl
@[simp] theorem clearFlag_previousClock : (clearFlag b).previousClock = b.previousClock := rfl
@[simp] theorem clearFlag_breakPending : (clearFlag b).breakPending = b.breakPending := rfl
@[simp] theorem clearFlag_extendedPending : (clearFlag b).extendedPending = b.extendedPending := rfl
@[simp] theorem clearFlag_modifiers : (clearFlag b).modifiers = b.modifiers := rfl
@[simp] theorem clearFlag_keys : (clearFlag b).keys = b.keys := rfl
@[simp] theorem clearFlag_changed : (clearFlag b).changed = false := rfl
@[simp] theorem initDecoder_bitIndex (p : Bool) : (initDecoder p b).bitIndex = 0 := rfl
@[simp] theorem initDecoder_byteValue (p : Bool) : (initDecoder p b).byteValue = 0x00#8 := rfl
@[simp] theorem initDecoder_previousClock (p : Bool) : (initDecoder p b).previousClock = p := rfl
@[simp] theorem initDecoder_breakPending (p : Bool) : (initDecoder p b).breakPending = false := rfl
@[simp] theorem initDecoder_extendedPending (p : Bool) : (initDecoder p b).extendedPending = false := rfl
@[simp] theorem initDecoder_modifiers (p : Bool) : (initDecoder p b).modifiers = b.modifiers := rfl
@[simp] theorem initDecoder_keys (p : Bool) : (initDecoder p b).keys = b.keys := rfl
@[simp] theorem initDecoder_changed (p : Bool) : (initDecoder p b).changed = b.changed := rfl
@[simp] theorem initKeyboard_bitIndex : (initKeyboard b).bitIndex = b.bitIndex := rfl
@[simp] theorem initKeyboard_byteValue : (initKeyboard b).byteValue = b.byteValue := rfl
@[simp] theorem initKeyboard_previousClock : (initKeyboard b).previousClock = b.previousClock := rfl
@[simp] theorem initKeyboard_breakPending : (initKeyboard b).breakPending = b.breakPending := rfl
@[simp] theorem initKeyboard_extendedPending : (initKeyboard b).extendedPending = b.extendedPending := rfl
@[simp] theorem initKeyboard_modifiers : (initKeyboard b).modifiers = 0x00#8 := rfl
@[simp] theorem initKeyboard_keys : (initKeyboard b).keys = #v[0x00#8, 0x00#8, 0x00#8, 0x00#8, 0x00#8, 0x00#8] := rfl
@[simp] theorem initKeyboard_changed : (initKeyboard b).changed = false := rfl
@[simp] theorem termByte_bitIndex (v : Byte) : (termByte v b).1.bitIndex = b.bitIndex := rfl
@[simp] theorem termByte_byteValue (v : Byte) : (termByte v b).1.byteValue = b.byteValue := rfl
@[simp] theorem termByte_previousClock (v : Byte) : (termByte v b).1.previousClock = b.previousClock := rfl
@[simp] theorem termByte_breakPending (v : Byte) : (termByte v b).1.breakPending = false := rfl
@[simp] theorem termByte_extendedPending (v : Byte) : (termByte v b).1.extendedPending = false := rfl
@[simp] theorem termByte_modifiers (v : Byte) : (termByte v b).1.modifiers = b.modifiers := rfl
@[simp] theorem termByte_keys (v : Byte) : (termByte v b).1.keys = b.keys := rfl
@[simp] theorem termByte_changed (v : Byte) : (termByte v b).1.changed = b.changed := rfl
@[simp] theorem termByte_event (v : Byte) : (termByte v b).2 = ⟨v, b.breakPending, b.extendedPending⟩ := rfl
@[simp] theorem settle_bitIndex (clr : Bool) (t : Block) : (settle clr b t).bitIndex = t.bitIndex := rfl
@[simp] theorem settle_byteValue (clr : Bool) (t : Block) : (settle clr b t).byteValue = t.byteValue := rfl
@[simp] theorem settle_previousClock (clr : Bool) (t : Block) : (settle clr b t).previousClock = t.previousClock := rfl
@[simp] theorem settle_breakPending (clr : Bool) (t : Block) : (settle clr b t).breakPending = t.breakPending := rfl
@[simp] theorem settle_extendedPending (clr : Bool) (t : Block) : (settle clr b t).extendedPending = t.extendedPending := rfl
@[simp] theorem settle_modifiers (clr : Bool) (t : Block) : (settle clr b t).modifiers = t.modifiers := rfl
@[simp] theorem settle_keys (clr : Bool) (t : Block) : (settle clr b t).keys = t.keys := rfl
@[simp] theorem settle_changed (clr : Bool) (t : Block) : (settle clr b t).changed = resolveChanged (mutated b t) clr b.changed := rfl

end Sys2Proof.Machine
end

