-- ==== Sys2Proof/Laws/Ops.lean ====
section
/-! SUPPORT. One lemma per shared operation that says once everything it can do; callers cite it and do not unfold the operation. -/

namespace Sys2Proof.Machine

/-! ## Bits and slots -/

/-- The one-bit mask. -/
theorem getLsbD_mask (k i : Nat) : (1#8 <<< k).getLsbD i = (decide (i < 8) && decide (i = k)) := by
  rw [BitVec.getLsbD_shiftLeft, BitVec.getLsbD_one]
  by_cases hi : i < 8 <;> by_cases hk : i < k <;> simp [hi, hk] <;> omega

/-- The bits of `putBit`. -/
theorem getLsbD_putBit (v : Byte) {k : Nat} (hk : k < 8) (d : Bool) (j : Nat) :
    (putBit v k d).getLsbD j = if j = k then d else v.getLsbD j := by
  unfold putBit
  cases d with
  | true =>
    rw [if_pos rfl, BitVec.getLsbD_or, getLsbD_mask]
    by_cases hj : j = k
    · subst hj; simp [hk]
    · simp [hj]
  | false =>
    rw [if_neg (by decide), BitVec.getLsbD_and, BitVec.getLsbD_not, getLsbD_mask]
    by_cases hj : j = k
    · subst hj; simp
    · by_cases h8 : j < 8
      · simp [hj, h8]
      · simp [hj, h8, BitVec.getLsbD_of_ge v j (by omega)]

/-- Putting a bit that is already there changes nothing. -/
theorem putBit_same (v : Byte) {k : Nat} (hk : k < 8) : putBit v k (v.getLsbD k) = v := by
  apply BitVec.eq_of_getLsbD_eq
  intro j _
  rw [getLsbD_putBit v hk]
  split
  · rename_i h; rw [h]
  · rfl

theorem find?_least {p : Fin 6 → Bool} {l : List (Fin 6)} (hl : l.Pairwise (· < ·)) {e : Fin 6} (h : l.find? p = some e) :
    ∀ j ∈ l, j < e → p j = false := by
  induction l with
  | nil => cases h
  | cons x l ih =>
    rw [List.find?_cons] at h
    rw [List.pairwise_cons] at hl
    intro j hj hlt
    cases hx : p x with
    | true =>
      rw [hx] at h
      injection h with h
      rcases List.mem_cons.mp hj with rfl | hm
      · omega
      · have := hl.1 j hm
        omega
    | false =>
      rw [hx] at h
      rcases List.mem_cons.mp hj with rfl | hm
      · exact hx
      · exact ih hl.2 h j hm hlt

/-- `firstSlot` finds the least index that satisfies the test. -/
theorem firstSlot_some {p : Byte → Bool} {keys : Vector Byte 6} {e : Fin 6} (h : firstSlot p keys = some e) :
    p keys[e] = true ∧ ∀ j : Fin 6, j < e → p keys[j] = false := by
  refine ⟨List.find?_some (p := fun i : Fin 6 => p keys[i]) h, fun j hj => ?_⟩
  have hm : j ∈ ([0, 1, 2, 3, 4, 5] : List (Fin 6)) := by clear hj; revert j; decide
  exact find?_least (p := fun i : Fin 6 => p keys[i]) (by decide) h j hm hj

/-- `firstSlot` finds nothing only where no slot satisfies the test. -/
theorem firstSlot_none {p : Byte → Bool} {keys : Vector Byte 6} (h : firstSlot p keys = none) (i : Fin 6) : p keys[i] = false := by
  have hi : i ∈ ([0, 1, 2, 3, 4, 5] : List (Fin 6)) := by revert i; decide
  simpa using List.find?_eq_none.mp h i hi

theorem firstSlot_isSome {p : Byte → Bool} {keys : Vector Byte 6} : (firstSlot p keys).isSome = true ↔ ∃ i : Fin 6, p keys[i] = true := by
  cases h : firstSlot p keys with
  | none =>
    have hn := firstSlot_none h
    constructor
    · intro hc; cases hc
    · rintro ⟨i, hi⟩; rw [hn i] at hi; cases hi
  | some e => exact ⟨fun _ => ⟨e, (firstSlot_some h).1⟩, fun _ => rfl⟩

theorem holds_iff {keys : Vector Byte 6} {id : Byte} : holds keys id = true ↔ ∃ i : Fin 6, keys[i] = id := by
  simp [holds, firstSlot_isSome]

theorem get_set (keys : Vector Byte 6) (e : Fin 6) (v : Byte) (i : Fin 6) : (keys.set e v)[i] = if i = e then v else keys[i] := by
  by_cases h : i = e
  · subst h; simp
  · have : e.val ≠ i.val := fun hh => h (Fin.ext hh.symm)
    simp [this, h]

/-! ## The decoder -/

/-- Everything a frame-byte operation can do (R110 to R112). -/
theorem frameByte_cases (v : Byte) (b : Block) :
    (v = breakPrefix ∧ frameByte v b = (breakByte b, none)) ∨
    (v = extPrefix ∧ frameByte v b = (extByte b, none)) ∨
    (v ≠ breakPrefix ∧ v ≠ extPrefix ∧ frameByte v b = ((termByte v b).1, some ⟨v, b.breakPending, b.extendedPending⟩)) := by
  unfold frameByte
  by_cases h1 : v = breakPrefix
  · exact .inl ⟨h1, by simp [h1]⟩
  · by_cases h2 : v = extPrefix
    · refine .inr (.inl ⟨h2, ?_⟩)
      rw [if_neg h1, if_pos h2]
    · refine .inr (.inr ⟨h1, h2, ?_⟩)
      rw [if_neg h1, if_neg h2]; rfl

/-- Everything `poll_link` can do (R92). -/
theorem pollLink_cases (c d : Bool) (b : Block) :
    (fallingEdge b.previousClock c = false ∧ pollLink c d b = (noEdge c b, none)) ∨
    (fallingEdge b.previousClock c = true ∧
      ((b.bitIndex = 0 ∧ pollLink c d b = (startBit b, none)) ∨
       (1 ≤ b.bitIndex.val ∧ b.bitIndex.val ≤ 8 ∧ pollLink c d b = (dataBit b.bitIndex.val d b, none)) ∨
       (b.bitIndex = 9 ∧ pollLink c d b = (parityBit b, none)) ∨
       (b.bitIndex = 10 ∧ pollLink c d b = stopBit b))) := by
  unfold pollLink
  cases hf : fallingEdge b.previousClock c with
  | false => exact .inl ⟨rfl, by simp⟩
  | true =>
    refine .inr ⟨rfl, ?_⟩
    by_cases h0 : b.bitIndex = 0
    · exact .inl ⟨h0, by simp [h0]⟩
    · have h0' : b.bitIndex.val ≠ 0 := fun h => h0 (Fin.ext h)
      by_cases h8 : b.bitIndex.val ≤ 8
      · exact .inr (.inl ⟨by omega, h8, by simp [h0, h8]⟩)
      · by_cases h9 : b.bitIndex = 9
        · exact .inr (.inr (.inl ⟨h9, by rw [if_pos rfl, if_neg h0, if_neg h8, if_pos h9]⟩))
        · have h9' : b.bitIndex.val ≠ 9 := fun h => h9 (Fin.ext h)
          have hlt := b.bitIndex.isLt
          have h10 : b.bitIndex = 10 := Fin.ext (by show b.bitIndex.val = 10; omega)
          exact .inr (.inr (.inr ⟨h10, by rw [if_pos rfl, if_neg h0, if_neg h8, if_neg h9]⟩))

/-- The decoder never writes the Keyboard State (R20, R193). -/
theorem frameByte_keyboard (v : Byte) (b : Block) :
    (frameByte v b).1.modifiers = b.modifiers ∧ (frameByte v b).1.keys = b.keys ∧ (frameByte v b).1.changed = b.changed := by
  rcases frameByte_cases v b with ⟨_, h⟩ | ⟨_, h⟩ | ⟨_, _, h⟩ <;> rw [h] <;> exact ⟨rfl, rfl, rfl⟩

theorem pollLink_keyboard (c d : Bool) (b : Block) :
    (pollLink c d b).1.modifiers = b.modifiers ∧ (pollLink c d b).1.keys = b.keys ∧ (pollLink c d b).1.changed = b.changed := by
  rcases pollLink_cases c d b with ⟨_, h⟩ | ⟨_, ⟨_, h⟩ | ⟨_, _, h⟩ | ⟨_, h⟩ | ⟨_, h⟩⟩ <;> rw [h]
  · exact ⟨rfl, rfl, rfl⟩
  · exact ⟨rfl, rfl, rfl⟩
  · exact ⟨rfl, rfl, rfl⟩
  · exact ⟨rfl, rfl, rfl⟩
  · exact frameByte_keyboard _ _

/-! ## The tracker -/

/-- Everything MOD.PRESS can do (R131). -/
theorem modPress_cases (n : Fin 8) (b : Block) :
    (b.modifiers.getLsbD n = true ∧ modPress n b = b) ∨
    (b.modifiers.getLsbD n = false ∧ modPress n b = { b with modifiers := putBit b.modifiers n true, changed := true }) := by
  unfold modPress
  cases h : b.modifiers.getLsbD n
  · exact .inr ⟨rfl, by simp⟩
  · exact .inl ⟨rfl, by simp⟩

/-- Everything MOD.RELEASE can do (R132). -/
theorem modRelease_cases (n : Fin 8) (b : Block) :
    (b.modifiers.getLsbD n = false ∧ modRelease n b = b) ∨
    (b.modifiers.getLsbD n = true ∧ modRelease n b = { b with modifiers := putBit b.modifiers n false, changed := true }) := by
  unfold modRelease
  cases h : b.modifiers.getLsbD n
  · exact .inl ⟨rfl, by simp⟩
  · exact .inr ⟨rfl, by simp⟩

/-- Everything ORD.PRESS can do (R135): nothing for a held key, nothing with six slots full, else the first empty slot is written. -/
theorem ordPress_cases (id : Byte) (b : Block) :
    ((∃ i : Fin 6, b.keys[i] = id) ∧ ordPress id b = b) ∨
    ((∀ i : Fin 6, b.keys[i] ≠ id) ∧ (∀ i : Fin 6, b.keys[i] ≠ 0x00#8) ∧ ordPress id b = b) ∨
    ((∀ i : Fin 6, b.keys[i] ≠ id) ∧ ∃ e : Fin 6, b.keys[e] = 0x00#8 ∧ (∀ j : Fin 6, j < e → b.keys[j] ≠ 0x00#8) ∧
      ordPress id b = { b with keys := b.keys.set e id, changed := true }) := by
  unfold ordPress
  by_cases hh : holds b.keys id = true
  · exact .inl ⟨holds_iff.mp hh, by simp [hh]⟩
  · have hn : ∀ i : Fin 6, b.keys[i] ≠ id := fun i hi => hh (holds_iff.mpr ⟨i, hi⟩)
    rw [if_neg hh]
    cases hs : firstSlot (· == 0x00#8) b.keys with
    | none => exact .inr (.inl ⟨hn, fun i => by simpa using firstSlot_none hs i, rfl⟩)
    | some e =>
      have h := firstSlot_some hs
      exact .inr (.inr ⟨hn, e, by simpa using h.1, fun j hj => by simpa using h.2 j hj, rfl⟩)

/-- Everything ORD.RELEASE can do (R136): nothing for a key in no slot, else the first slot that holds it is emptied. -/
theorem ordRelease_cases (id : Byte) (b : Block) :
    ((∀ i : Fin 6, b.keys[i] ≠ id) ∧ ordRelease id b = b) ∨
    (∃ m : Fin 6, b.keys[m] = id ∧ (∀ j : Fin 6, j < m → b.keys[j] ≠ id) ∧
      ordRelease id b = { b with keys := b.keys.set m 0x00#8, changed := true }) := by
  unfold ordRelease
  cases hs : firstSlot (· == id) b.keys with
  | none => exact .inl ⟨fun i => by simpa using firstSlot_none hs i, rfl⟩
  | some m =>
    have h := firstSlot_some hs
    exact .inr ⟨m, by simpa using h.1, fun j hj => by simpa using h.2 j hj, rfl⟩

/-- Everything the tracker can do with an identity (R121). -/
theorem trackIdentity_cases (cfg : Config) (isBreak : Bool) (id : Byte) (b : Block) :
    (cfg.classify id = .unmapped ∧ trackIdentity cfg isBreak id b = some b) ∨
    (∃ n, cfg.classify id = .modifier n ∧ trackIdentity cfg isBreak id b = some (if isBreak then modRelease n b else modPress n b)) ∨
    (cfg.classify id = .capsLock ∧
      trackIdentity cfg isBreak id b = some (if isBreak then ordRelease cfg.idCapsLock b else ordPress cfg.idCapsLock b)) ∨
    (cfg.classify id = .ordinary ∧ trackIdentity cfg isBreak id b = some (if isBreak then ordRelease id b else ordPress id b)) ∨
    (cfg.classify id = .reserved ∧ trackIdentity cfg isBreak id b = none) := by
  unfold trackIdentity
  cases h : cfg.classify id with
  | unmapped => exact .inl ⟨rfl, rfl⟩
  | modifier n => exact .inr (.inl ⟨n, rfl, rfl⟩)
  | capsLock => exact .inr (.inr (.inl ⟨rfl, rfl⟩))
  | ordinary => exact .inr (.inr (.inr (.inl ⟨rfl, rfl⟩)))
  | reserved => exact .inr (.inr (.inr (.inr ⟨rfl, rfl⟩)))

/-- No tracker operation writes a decoder element (R20). -/
theorem modPress_decoder (n : Fin 8) (b : Block) : SameDecoder (modPress n b) b := by
  rcases modPress_cases n b with ⟨_, h⟩ | ⟨_, h⟩ <;> rw [h] <;> exact ⟨rfl, rfl, rfl, rfl, rfl⟩

theorem modRelease_decoder (n : Fin 8) (b : Block) : SameDecoder (modRelease n b) b := by
  rcases modRelease_cases n b with ⟨_, h⟩ | ⟨_, h⟩ <;> rw [h] <;> exact ⟨rfl, rfl, rfl, rfl, rfl⟩

theorem ordPress_decoder (id : Byte) (b : Block) : SameDecoder (ordPress id b) b := by
  rcases ordPress_cases id b with ⟨_, h⟩ | ⟨_, _, h⟩ | ⟨_, _, _, _, h⟩ <;> rw [h] <;> exact ⟨rfl, rfl, rfl, rfl, rfl⟩

theorem ordRelease_decoder (id : Byte) (b : Block) : SameDecoder (ordRelease id b) b := by
  rcases ordRelease_cases id b with ⟨_, h⟩ | ⟨_, _, _, h⟩ <;> rw [h] <;> exact ⟨rfl, rfl, rfl, rfl, rfl⟩

/-! ## The step -/

/-- Everything STEP can do (R170): no event, an event and the tracker's block, or a refusal for a reserved identity. -/
theorem execStep_cases (l c d : Bool) (s : State) :
    ((pollLink c d s.block).2 = none ∧
      execStep l c d s = .next (s.finish (settle l (pollLink c d s.block).1 (pollLink c d s.block).1) .none)) ∨
    (∃ e t, (pollLink c d s.block).2 = some e ∧ dispatch s.config e (pollLink c d s.block).1 = some t ∧
      execStep l c d s = .next (s.finish (settle l (pollLink c d s.block).1 t) (.event e))) ∨
    (∃ e, (pollLink c d s.block).2 = some e ∧ dispatch s.config e (pollLink c d s.block).1 = none ∧
      execStep l c d s = .refused (.reservedIdentity (s.config.lookup e.isExtended e.code))) := by
  unfold execStep
  cases hp : (pollLink c d s.block).2 with
  | none => exact .inl ⟨rfl, by simp [hp]⟩
  | some e =>
    cases hd : dispatch s.config e (pollLink c d s.block).1 with
    | none => exact .inr (.inr ⟨e, rfl, hd, by simp [hp, hd]⟩)
    | some t => exact .inr (.inl ⟨e, t, rfl, hd, by simp [hp, hd]⟩)

/-- A step with rst = 1 leaves the reset block (R27, R170). -/
theorem initLink_then_initState (l c d : Bool) (s : State) :
    Answer.andThen (execInitLink l c d s) (execInitState l c d) = .next (s.finish (Block.reset s.config.prevClkReset) .none) := rfl

/-- Everything a step of a well-configured machine runs, by its input word (R60, R73). -/
theorem runStep_cases (s : State) :
    (StepWord.rst (nextWord s) = true ∧
      runStep s = .next ((consume s).finish (Block.reset s.config.prevClkReset) .none)) ∨
    (StepWord.rst (nextWord s) = false ∧
      runStep s = execStep (StepWord.clr (nextWord s)) (StepWord.clock (nextWord s)) (StepWord.data (nextWord s)) (consume s)) := by
  have key : ∀ w : StepWord, ∀ t : State,
      (StepWord.rst w = true ∧ runDecoded (decodeStepWord w) t = .next (t.finish (Block.reset t.config.prevClkReset) .none)) ∨
      (StepWord.rst w = false ∧
        runDecoded (decodeStepWord w) t = execStep (StepWord.clr w) (StepWord.clock w) (StepWord.data w) t) := by
    intro w t
    unfold decodeStepWord StepWord.rst StepWord.clr StepWord.clock StepWord.data
    cases hr : w.getLsbD 3 with
    | true => exact .inl ⟨rfl, initLink_then_initState (w.getLsbD 2) (w.getLsbD 1) (w.getLsbD 0) t⟩
    | false =>
      refine .inr ⟨rfl, ?_⟩
      cases hl : w.getLsbD 2 <;> rfl
  exact key (nextWord s) (consume s)

/-- A step of a well-configured machine. -/
theorem step_of_wf {s : State} (h : s.config.wf = true) : step s = runStep s := by simp [step, h]

/-- A step of an ill-configured machine. -/
theorem step_of_not_wf {s : State} (h : s.config.wf = false) : step s = .refused .illFormedConfig := by simp [step, h]

end Sys2Proof.Machine
end

