-- ==== Sys2Proof/Laws/PerInstr.lean ====
section
/-! SUPPORT. Per-instruction families. `EncodeFits`: the encoder's word has no bit above its format's width. -/

namespace Sys2Proof.Laws

/-- A SAMPLER word fits its seven bits. -/
theorem samplerWord_fits (p c : Bool) (i : BitVec 4) (d : Bool) : (samplerWord p c i d).bits.toNat < 2 ^ (samplerWord p c i d).format.width := by
  revert p c i d; decide

/-- A FRAMEBYTE word fits its eight bits. -/
theorem frameByteWord_fits (v : Byte) : (frameByteWord v).bits.toNat < 2 ^ (frameByteWord v).format.width := by
  revert v; decide

/-- A STEPWORD word fits its four bits. -/
theorem stepOpWord_fits (r l c d : Bool) : (stepOpWord r l c d).bits.toNat < 2 ^ (stepOpWord r l c d).format.width := by
  revert r l c d; decide

namespace EncodeFits

/-- The encoder's word for `i` fits the width of its format. -/
def Statement (i : Instr) : Prop := (encode i).bits.toNat < 2 ^ (encode i).format.width

theorem sNoedgeLow (i : BitVec 4) (d : Bool) : Statement (.sNoedgeLow i d) := samplerWord_fits _ _ _ _
theorem sNoedgeRising (i : BitVec 4) (d : Bool) : Statement (.sNoedgeRising i d) := samplerWord_fits _ _ _ _
theorem sNoedgeHigh (i : BitVec 4) (d : Bool) : Statement (.sNoedgeHigh i d) := samplerWord_fits _ _ _ _
theorem sStart (d : Bool) : Statement (.sStart d) := samplerWord_fits _ _ _ _
theorem sData1 (d : Bool) : Statement (.sData1 d) := samplerWord_fits _ _ _ _
theorem sData2 (d : Bool) : Statement (.sData2 d) := samplerWord_fits _ _ _ _
theorem sData3 (d : Bool) : Statement (.sData3 d) := samplerWord_fits _ _ _ _
theorem sData4 (d : Bool) : Statement (.sData4 d) := samplerWord_fits _ _ _ _
theorem sData5 (d : Bool) : Statement (.sData5 d) := samplerWord_fits _ _ _ _
theorem sData6 (d : Bool) : Statement (.sData6 d) := samplerWord_fits _ _ _ _
theorem sData7 (d : Bool) : Statement (.sData7 d) := samplerWord_fits _ _ _ _
theorem sData8 (d : Bool) : Statement (.sData8 d) := samplerWord_fits _ _ _ _
theorem sParity (d : Bool) : Statement (.sParity d) := samplerWord_fits _ _ _ _
theorem sStop (d : Bool) : Statement (.sStop d) := samplerWord_fits _ _ _ _
theorem reservedBitIndex11 (p : Bool) (c : Bool) (d : Bool) : Statement (.reservedBitIndex11 p c d) := samplerWord_fits _ _ _ _
theorem reservedBitIndex12 (p : Bool) (c : Bool) (d : Bool) : Statement (.reservedBitIndex12 p c d) := samplerWord_fits _ _ _ _
theorem reservedBitIndex13 (p : Bool) (c : Bool) (d : Bool) : Statement (.reservedBitIndex13 p c d) := samplerWord_fits _ _ _ _
theorem reservedBitIndex14 (p : Bool) (c : Bool) (d : Bool) : Statement (.reservedBitIndex14 p c d) := samplerWord_fits _ _ _ _
theorem reservedBitIndex15 (p : Bool) (c : Bool) (d : Bool) : Statement (.reservedBitIndex15 p c d) := samplerWord_fits _ _ _ _
theorem fBreak : Statement (.fBreak) := frameByteWord_fits _
theorem fExt : Statement (.fExt) := frameByteWord_fits _
theorem fTerm (v : Byte) : Statement (.fTerm v) := frameByteWord_fits _
theorem tLookup (e : Bool) (c : Byte) : Statement (.tLookup e c) := BitVec.isLt _
theorem kUnmapped (b : Bool) : Statement (.kUnmapped b) := BitVec.isLt _
theorem modPress (n : Fin 8) : Statement (.modPress n) := BitVec.isLt _
theorem modRelease (n : Fin 8) : Statement (.modRelease n) := BitVec.isLt _
theorem capsPress : Statement (.capsPress) := BitVec.isLt _
theorem capsRelease : Statement (.capsRelease) := BitVec.isLt _
theorem ordPress (id : Byte) : Statement (.ordPress id) := BitVec.isLt _
theorem ordRelease (id : Byte) : Statement (.ordRelease id) := BitVec.isLt _
theorem reservedIdent (b : Bool) (id : Byte) : Statement (.reservedIdent b id) := BitVec.isLt _
theorem step (l : Bool) (c : Bool) (d : Bool) : Statement (.step l c d) := stepOpWord_fits _ _ _ _
theorem clearChanged (c : Bool) (d : Bool) : Statement (.clearChanged c d) := stepOpWord_fits _ _ _ _
theorem initLink (l : Bool) (c : Bool) (d : Bool) : Statement (.initLink l c d) := stepOpWord_fits _ _ _ _
theorem initState (l : Bool) (c : Bool) (d : Bool) : Statement (.initState l c d) := stepOpWord_fits _ _ _ _
theorem getModifiers : Statement (.getModifiers) := (by decide : (encode .getModifiers).bits.toNat < 2 ^ (encode .getModifiers).format.width)
theorem getKeys : Statement (.getKeys) := (by decide : (encode .getKeys).bits.toNat < 2 ^ (encode .getKeys).format.width)
theorem hasChanged : Statement (.hasChanged) := (by decide : (encode .hasChanged).bits.toNat < 2 ^ (encode .hasChanged).format.width)
theorem report : Statement (.report) := (by decide : (encode .report).bits.toNat < 2 ^ (encode .report).format.width)
theorem plainF9 : Statement .plainF9 := BitVec.isLt _
theorem plainF5 : Statement .plainF5 := BitVec.isLt _
theorem plainF3 : Statement .plainF3 := BitVec.isLt _
theorem plainF1 : Statement .plainF1 := BitVec.isLt _
theorem plainF2 : Statement .plainF2 := BitVec.isLt _
theorem plainF12 : Statement .plainF12 := BitVec.isLt _
theorem plainF10 : Statement .plainF10 := BitVec.isLt _
theorem plainF8 : Statement .plainF8 := BitVec.isLt _
theorem plainF6 : Statement .plainF6 := BitVec.isLt _
theorem plainF4 : Statement .plainF4 := BitVec.isLt _
theorem plainTab : Statement .plainTab := BitVec.isLt _
theorem plainGrave : Statement .plainGrave := BitVec.isLt _
theorem plainLeftAlt : Statement .plainLeftAlt := BitVec.isLt _
theorem plainLeftShift : Statement .plainLeftShift := BitVec.isLt _
theorem plainLeftCtrl : Statement .plainLeftCtrl := BitVec.isLt _
theorem plainQ : Statement .plainQ := BitVec.isLt _
theorem plain1 : Statement .plain1 := BitVec.isLt _
theorem plainZ : Statement .plainZ := BitVec.isLt _
theorem plainS : Statement .plainS := BitVec.isLt _
theorem plainA : Statement .plainA := BitVec.isLt _
theorem plainW : Statement .plainW := BitVec.isLt _
theorem plain2 : Statement .plain2 := BitVec.isLt _
theorem plainC : Statement .plainC := BitVec.isLt _
theorem plainX : Statement .plainX := BitVec.isLt _
theorem plainD : Statement .plainD := BitVec.isLt _
theorem plainE : Statement .plainE := BitVec.isLt _
theorem plain4 : Statement .plain4 := BitVec.isLt _
theorem plain3 : Statement .plain3 := BitVec.isLt _
theorem plainSpace : Statement .plainSpace := BitVec.isLt _
theorem plainV : Statement .plainV := BitVec.isLt _
theorem plainF : Statement .plainF := BitVec.isLt _
theorem plainT : Statement .plainT := BitVec.isLt _
theorem plainR : Statement .plainR := BitVec.isLt _
theorem plain5 : Statement .plain5 := BitVec.isLt _
theorem plainN : Statement .plainN := BitVec.isLt _
theorem plainB : Statement .plainB := BitVec.isLt _
theorem plainH : Statement .plainH := BitVec.isLt _
theorem plainG : Statement .plainG := BitVec.isLt _
theorem plainY : Statement .plainY := BitVec.isLt _
theorem plain6 : Statement .plain6 := BitVec.isLt _
theorem plainM : Statement .plainM := BitVec.isLt _
theorem plainJ : Statement .plainJ := BitVec.isLt _
theorem plainU : Statement .plainU := BitVec.isLt _
theorem plain7 : Statement .plain7 := BitVec.isLt _
theorem plain8 : Statement .plain8 := BitVec.isLt _
theorem plainComma : Statement .plainComma := BitVec.isLt _
theorem plainK : Statement .plainK := BitVec.isLt _
theorem plainI : Statement .plainI := BitVec.isLt _
theorem plainO : Statement .plainO := BitVec.isLt _
theorem plain0 : Statement .plain0 := BitVec.isLt _
theorem plain9 : Statement .plain9 := BitVec.isLt _
theorem plainPeriod : Statement .plainPeriod := BitVec.isLt _
theorem plainSlash : Statement .plainSlash := BitVec.isLt _
theorem plainL : Statement .plainL := BitVec.isLt _
theorem plainSemicolon : Statement .plainSemicolon := BitVec.isLt _
theorem plainP : Statement .plainP := BitVec.isLt _
theorem plainMinus : Statement .plainMinus := BitVec.isLt _
theorem plainApostrophe : Statement .plainApostrophe := BitVec.isLt _
theorem plainLeftBracket : Statement .plainLeftBracket := BitVec.isLt _
theorem plainEqual : Statement .plainEqual := BitVec.isLt _
theorem plainCapsLock : Statement .plainCapsLock := BitVec.isLt _
theorem plainRightShift : Statement .plainRightShift := BitVec.isLt _
theorem plainEnter : Statement .plainEnter := BitVec.isLt _
theorem plainRightBracket : Statement .plainRightBracket := BitVec.isLt _
theorem plainBackslash : Statement .plainBackslash := BitVec.isLt _
theorem plainNonUSBackslash : Statement .plainNonUSBackslash := BitVec.isLt _
theorem plainBackspace : Statement .plainBackspace := BitVec.isLt _
theorem plainKeypad1 : Statement .plainKeypad1 := BitVec.isLt _
theorem plainKeypad4 : Statement .plainKeypad4 := BitVec.isLt _
theorem plainKeypad7 : Statement .plainKeypad7 := BitVec.isLt _
theorem plainKeypad0 : Statement .plainKeypad0 := BitVec.isLt _
theorem plainKeypadPeriod : Statement .plainKeypadPeriod := BitVec.isLt _
theorem plainKeypad2 : Statement .plainKeypad2 := BitVec.isLt _
theorem plainKeypad5 : Statement .plainKeypad5 := BitVec.isLt _
theorem plainKeypad6 : Statement .plainKeypad6 := BitVec.isLt _
theorem plainKeypad8 : Statement .plainKeypad8 := BitVec.isLt _
theorem plainEscape : Statement .plainEscape := BitVec.isLt _
theorem plainNumLock : Statement .plainNumLock := BitVec.isLt _
theorem plainF11 : Statement .plainF11 := BitVec.isLt _
theorem plainKeypadPlus : Statement .plainKeypadPlus := BitVec.isLt _
theorem plainKeypad3 : Statement .plainKeypad3 := BitVec.isLt _
theorem plainKeypadMinus : Statement .plainKeypadMinus := BitVec.isLt _
theorem plainKeypadMultiply : Statement .plainKeypadMultiply := BitVec.isLt _
theorem plainKeypad9 : Statement .plainKeypad9 := BitVec.isLt _
theorem plainScrollLock : Statement .plainScrollLock := BitVec.isLt _
theorem plainF7 : Statement .plainF7 := BitVec.isLt _
theorem extRightAlt : Statement .extRightAlt := BitVec.isLt _
theorem extRightCtrl : Statement .extRightCtrl := BitVec.isLt _
theorem extLeftGUI : Statement .extLeftGUI := BitVec.isLt _
theorem extRightGUI : Statement .extRightGUI := BitVec.isLt _
theorem extApplication : Statement .extApplication := BitVec.isLt _
theorem extKeypadDivide : Statement .extKeypadDivide := BitVec.isLt _
theorem extKeypadEnter : Statement .extKeypadEnter := BitVec.isLt _
theorem extEnd : Statement .extEnd := BitVec.isLt _
theorem extLeftArrow : Statement .extLeftArrow := BitVec.isLt _
theorem extHome : Statement .extHome := BitVec.isLt _
theorem extInsert : Statement .extInsert := BitVec.isLt _
theorem extDelete : Statement .extDelete := BitVec.isLt _
theorem extDownArrow : Statement .extDownArrow := BitVec.isLt _
theorem extRightArrow : Statement .extRightArrow := BitVec.isLt _
theorem extUpArrow : Statement .extUpArrow := BitVec.isLt _
theorem extPageDown : Statement .extPageDown := BitVec.isLt _
theorem extPrintScreen : Statement .extPrintScreen := BitVec.isLt _
theorem extPageUp : Statement .extPageUp := BitVec.isLt _

end EncodeFits

end Sys2Proof.Laws
end

