-- ==== Sys2Proof/Tests/Slice0.lean ====
section
/-! SUPPORT. The model's own tests. Expected values are the spec's: the patterns of spec/opcode_table.json and spec/30_encoding.md for words, the vectors of
spec/95_test_vectors.md (named in each comment: S, M, K, Q, Z) and the rules' examples for effects. Then one witness per obligation with hypotheses. -/

namespace Sys2Proof.Tests

open Sys2Proof.Machine

/-- A block, in the order of spec/95: `bit_index, byte_value, previous_clock, break_pending, extended_pending / modifiers, keys, changed`. -/
def blk (i : Fin 11) (v : Byte) (p br ex : Bool) (m : Byte) (k : Vector Byte 6) (ch : Bool) : Block := ⟨i, v, p, br, ex, m, k, ch⟩

/-- No key held. -/
def none6 : Vector Byte 6 := #v[0x00#8, 0x00#8, 0x00#8, 0x00#8, 0x00#8, 0x00#8]

/-- Six keys held. -/
def full6 : Vector Byte 6 := #v[0x04#8, 0x05#8, 0x06#8, 0x07#8, 0x08#8, 0x09#8]

/-- A key in slot 0. -/
def one6 (id : Byte) : Vector Byte 6 := #v[id, 0x00#8, 0x00#8, 0x00#8, 0x00#8, 0x00#8]

/-- A decoder with no key held (the S vectors). -/
def dec (i : Fin 11) (v : Byte) (p br ex : Bool) : Block := blk i v p br ex 0x00#8 none6 false

/-- A tracker with the decoder idle (the K vectors). -/
def trk (m : Byte) (k : Vector Byte 6) (ch : Bool) : Block := blk 0 0x00#8 true false false m k ch

/-- A state with the default parameters. -/
def st (b : Block) (ws : List StepWord) : State := ⟨b, Config.standard, ws, .none⟩

/-- With the default parameters a step is `runStep`; the tests below run that, so that the parameters' well-formedness is decided once. -/
theorem step_standard (b : Block) (ws : List StepWord) : step (st b ws) = runStep (st b ws) := step_of_wf Config.standard_wf

/-- One step of the input `w` ends in the block `b` with the result `r`. -/
def stepGives (a : Block) (w : StepWord) (b : Block) (r : Result) : Bool :=
  match runStep (st a [w]) with
  | .next t => decide (t.block = b) && decide (t.result = r) && t.stimulus.isEmpty
  | _ => false

/-- One operation ends in the block `b` with the result `r`. -/
def execGives (i : Instr) (a : Block) (b : Block) (r : Result) : Bool :=
  match exec i (st a []) with
  | .next t => decide (t.block = b) && decide (t.result = r)
  | _ => false

/-- One operation stops with the refusal. -/
def execRefuses (i : Instr) (r : Refusal) : Bool :=
  match exec i (st (trk 0x00#8 none6 false) []) with
  | .refused q => decide (q = r)
  | _ => false

/-- The tracker's dispatch of one event gives the block. -/
def dispatchGives (code : Byte) (isBreak isExtended : Bool) (a b : Block) : Bool :=
  decide (dispatch Config.standard ⟨code, isBreak, isExtended⟩ a = some b)

/-- The word decodes to the operation, and is the operation's own word. -/
def decodesTo (f : Format) (w : BitVec 9) (i : Instr) : Bool :=
  match decode ⟨f, w⟩ with
  | .ok j => decide (i = j) && i.wf
  | .error _ => false

/-- The word is rejected for this reason. -/
def rejects (f : Format) (w : BitVec 9) (r : Reject) : Bool :=
  match decode ⟨f, w⟩ with
  | .ok _ => false
  | .error q => decide (q = r)

/-! ## Well-formedness: each check refuses an ill-formed term -/

theorem test_wf_refuses_bit_index_field :
    (Instr.sNoedgeLow 11 false).wf = false ∧ (Instr.sNoedgeRising 15 true).wf = false ∧ (Instr.sNoedgeHigh 11 true).wf = false := by decide

theorem test_wf_refuses_terminal_field : (Instr.fTerm 0xF0).wf = false ∧ (Instr.fTerm 0xE0).wf = false := by decide

theorem test_wf_refuses_ordinary_field :
    (Instr.ordPress 0x00).wf = false ∧ (Instr.ordPress 0xE0).wf = false ∧ (Instr.ordRelease 0x00).wf = false ∧
    (Instr.ordRelease 0xFF).wf = false := by decide

theorem test_wf_refuses_reserved_field : (Instr.reservedIdent false 0xE8).wf = false ∧ (Instr.reservedIdent true 0x04).wf = false := by decide

/-! ## Decoding: words written out from the patterns of spec/opcode_table.json -/

theorem test_decode_sampler_noedge_start :
    decodesTo .sampler 0b000001010#9 (.sNoedgeLow 10 false) = true ∧
    decodesTo .sampler 0b001010100#9 (.sNoedgeRising 4 true) = true ∧
    decodesTo .sampler 0b000110000#9 (.sNoedgeHigh 0 false) = true ∧
    decodesTo .sampler 0b001100000#9 (.sStart true) = true := by decide

theorem test_decode_sampler_data :
    decodesTo .sampler 0b001100001#9 (.sData1 true) = true ∧
    decodesTo .sampler 0b000100010#9 (.sData2 false) = true ∧
    decodesTo .sampler 0b001100011#9 (.sData3 true) = true ∧
    decodesTo .sampler 0b000100100#9 (.sData4 false) = true ∧
    decodesTo .sampler 0b001100101#9 (.sData5 true) = true ∧
    decodesTo .sampler 0b000100110#9 (.sData6 false) = true ∧
    decodesTo .sampler 0b001100111#9 (.sData7 true) = true ∧
    decodesTo .sampler 0b000101000#9 (.sData8 false) = true := by decide

theorem test_decode_sampler_parity_stop_reserved :
    decodesTo .sampler 0b001101001#9 (.sParity true) = true ∧
    decodesTo .sampler 0b000101010#9 (.sStop false) = true ∧
    decodesTo .sampler 0b000001011#9 (.reservedBitIndex11 false false false) = true ∧
    decodesTo .sampler 0b001011100#9 (.reservedBitIndex12 false true true) = true ∧
    decodesTo .sampler 0b000101101#9 (.reservedBitIndex13 true false false) = true ∧
    decodesTo .sampler 0b000111110#9 (.reservedBitIndex14 true true false) = true ∧
    decodesTo .sampler 0b001101111#9 (.reservedBitIndex15 true false true) = true := by decide

theorem test_decode_framebyte :
    decodesTo .frameByte 0b011110000#9 (.fBreak) = true ∧
    decodesTo .frameByte 0b011100000#9 (.fExt) = true ∧
    decodesTo .frameByte 0b000011100#9 (.fTerm 0x1C) = true ∧
    decodesTo .frameByte 0b011110001#9 (.fTerm 0xF1) = true := by decide

theorem test_decode_tableaddr :
    decodesTo .tableAddr 0b000011100#9 (.tLookup false 0x1C) = true ∧
    decodesTo .tableAddr 0b101110100#9 (.tLookup true 0x74) = true := by decide

theorem test_decode_ident :
    decodesTo .ident 0b000000000#9 (.kUnmapped false) = true ∧
    decodesTo .ident 0b100000000#9 (.kUnmapped true) = true ∧
    decodesTo .ident 0b011100001#9 (.modPress 1) = true ∧
    decodesTo .ident 0b111100111#9 (.modRelease 7) = true ∧
    decodesTo .ident 0b011101000#9 (.capsPress) = true ∧
    decodesTo .ident 0b111101000#9 (.capsRelease) = true ∧
    decodesTo .ident 0b000000100#9 (.ordPress 0x04) = true ∧
    decodesTo .ident 0b111011111#9 (.ordRelease 0xDF) = true ∧
    decodesTo .ident 0b011101001#9 (.reservedIdent false 0xE9) = true ∧
    decodesTo .ident 0b111111111#9 (.reservedIdent true 0xFF) = true := by decide

theorem test_decode_stepword :
    decodesTo .stepWord 0b000000010#9 (.step false true false) = true ∧
    decodesTo .stepWord 0b000000101#9 (.clearChanged false true) = true ∧
    decodesTo .stepWord 0b000001011#9 (.initLink false true true) = true ∧
    decodesTo .stepWord 0b000001100#9 (.initLink true false false) = true := by decide

theorem test_decode_output :
    decodesTo .output 0b000000000#9 (.getModifiers) = true ∧
    decodesTo .output 0b000000001#9 (.getKeys) = true ∧
    decodesTo .output 0b000000010#9 (.hasChanged) = true ∧
    decodesTo .output 0b000000011#9 (.report) = true := by decide

/-- INIT_STATE and STEP with `clear_changed = 1` have words that decode to the other row of the same words (notes/assumptions/10.md). -/
theorem test_encode_shared_words :
    encode (.initState false true true) = ⟨.stepWord, 0b000001011#9⟩ ∧ encode (.step true false true) = ⟨.stepWord, 0b000000101#9⟩ := by decide

theorem test_decode_table_entry_1 :
    decodesTo .tableEntry 0b000000001#9 (.plainF9) = true ∧
    decodesTo .tableEntry 0b000000011#9 (.plainF5) = true ∧
    decodesTo .tableEntry 0b000000100#9 (.plainF3) = true ∧
    decodesTo .tableEntry 0b000000101#9 (.plainF1) = true ∧
    decodesTo .tableEntry 0b000000110#9 (.plainF2) = true ∧
    decodesTo .tableEntry 0b000000111#9 (.plainF12) = true ∧
    decodesTo .tableEntry 0b000001001#9 (.plainF10) = true ∧
    decodesTo .tableEntry 0b000001010#9 (.plainF8) = true ∧
    decodesTo .tableEntry 0b000001011#9 (.plainF6) = true ∧
    decodesTo .tableEntry 0b000001100#9 (.plainF4) = true ∧
    decodesTo .tableEntry 0b000001101#9 (.plainTab) = true ∧
    decodesTo .tableEntry 0b000001110#9 (.plainGrave) = true ∧
    decodesTo .tableEntry 0b000010001#9 (.plainLeftAlt) = true ∧
    decodesTo .tableEntry 0b000010010#9 (.plainLeftShift) = true ∧
    decodesTo .tableEntry 0b000010100#9 (.plainLeftCtrl) = true ∧
    decodesTo .tableEntry 0b000010101#9 (.plainQ) = true ∧
    decodesTo .tableEntry 0b000010110#9 (.plain1) = true ∧
    decodesTo .tableEntry 0b000011010#9 (.plainZ) = true ∧
    decodesTo .tableEntry 0b000011011#9 (.plainS) = true ∧
    decodesTo .tableEntry 0b000011100#9 (.plainA) = true ∧
    decodesTo .tableEntry 0b000011101#9 (.plainW) = true ∧
    decodesTo .tableEntry 0b000011110#9 (.plain2) = true ∧
    decodesTo .tableEntry 0b000100001#9 (.plainC) = true ∧
    decodesTo .tableEntry 0b000100010#9 (.plainX) = true ∧
    decodesTo .tableEntry 0b000100011#9 (.plainD) = true ∧
    decodesTo .tableEntry 0b000100100#9 (.plainE) = true := by decide +kernel

theorem test_decode_table_entry_2 :
    decodesTo .tableEntry 0b000100101#9 (.plain4) = true ∧
    decodesTo .tableEntry 0b000100110#9 (.plain3) = true ∧
    decodesTo .tableEntry 0b000101001#9 (.plainSpace) = true ∧
    decodesTo .tableEntry 0b000101010#9 (.plainV) = true ∧
    decodesTo .tableEntry 0b000101011#9 (.plainF) = true ∧
    decodesTo .tableEntry 0b000101100#9 (.plainT) = true ∧
    decodesTo .tableEntry 0b000101101#9 (.plainR) = true ∧
    decodesTo .tableEntry 0b000101110#9 (.plain5) = true ∧
    decodesTo .tableEntry 0b000110001#9 (.plainN) = true ∧
    decodesTo .tableEntry 0b000110010#9 (.plainB) = true ∧
    decodesTo .tableEntry 0b000110011#9 (.plainH) = true ∧
    decodesTo .tableEntry 0b000110100#9 (.plainG) = true ∧
    decodesTo .tableEntry 0b000110101#9 (.plainY) = true ∧
    decodesTo .tableEntry 0b000110110#9 (.plain6) = true ∧
    decodesTo .tableEntry 0b000111010#9 (.plainM) = true ∧
    decodesTo .tableEntry 0b000111011#9 (.plainJ) = true ∧
    decodesTo .tableEntry 0b000111100#9 (.plainU) = true ∧
    decodesTo .tableEntry 0b000111101#9 (.plain7) = true ∧
    decodesTo .tableEntry 0b000111110#9 (.plain8) = true ∧
    decodesTo .tableEntry 0b001000001#9 (.plainComma) = true ∧
    decodesTo .tableEntry 0b001000010#9 (.plainK) = true ∧
    decodesTo .tableEntry 0b001000011#9 (.plainI) = true ∧
    decodesTo .tableEntry 0b001000100#9 (.plainO) = true ∧
    decodesTo .tableEntry 0b001000101#9 (.plain0) = true ∧
    decodesTo .tableEntry 0b001000110#9 (.plain9) = true ∧
    decodesTo .tableEntry 0b001001001#9 (.plainPeriod) = true := by decide +kernel

theorem test_decode_table_entry_3 :
    decodesTo .tableEntry 0b001001010#9 (.plainSlash) = true ∧
    decodesTo .tableEntry 0b001001011#9 (.plainL) = true ∧
    decodesTo .tableEntry 0b001001100#9 (.plainSemicolon) = true ∧
    decodesTo .tableEntry 0b001001101#9 (.plainP) = true ∧
    decodesTo .tableEntry 0b001001110#9 (.plainMinus) = true ∧
    decodesTo .tableEntry 0b001010010#9 (.plainApostrophe) = true ∧
    decodesTo .tableEntry 0b001010100#9 (.plainLeftBracket) = true ∧
    decodesTo .tableEntry 0b001010101#9 (.plainEqual) = true ∧
    decodesTo .tableEntry 0b001011000#9 (.plainCapsLock) = true ∧
    decodesTo .tableEntry 0b001011001#9 (.plainRightShift) = true ∧
    decodesTo .tableEntry 0b001011010#9 (.plainEnter) = true ∧
    decodesTo .tableEntry 0b001011011#9 (.plainRightBracket) = true ∧
    decodesTo .tableEntry 0b001011101#9 (.plainBackslash) = true ∧
    decodesTo .tableEntry 0b001100001#9 (.plainNonUSBackslash) = true ∧
    decodesTo .tableEntry 0b001100110#9 (.plainBackspace) = true ∧
    decodesTo .tableEntry 0b001101001#9 (.plainKeypad1) = true ∧
    decodesTo .tableEntry 0b001101011#9 (.plainKeypad4) = true ∧
    decodesTo .tableEntry 0b001101100#9 (.plainKeypad7) = true ∧
    decodesTo .tableEntry 0b001110000#9 (.plainKeypad0) = true ∧
    decodesTo .tableEntry 0b001110001#9 (.plainKeypadPeriod) = true ∧
    decodesTo .tableEntry 0b001110010#9 (.plainKeypad2) = true ∧
    decodesTo .tableEntry 0b001110011#9 (.plainKeypad5) = true ∧
    decodesTo .tableEntry 0b001110100#9 (.plainKeypad6) = true ∧
    decodesTo .tableEntry 0b001110101#9 (.plainKeypad8) = true ∧
    decodesTo .tableEntry 0b001110110#9 (.plainEscape) = true ∧
    decodesTo .tableEntry 0b001110111#9 (.plainNumLock) = true := by decide +kernel

theorem test_decode_table_entry_4 :
    decodesTo .tableEntry 0b001111000#9 (.plainF11) = true ∧
    decodesTo .tableEntry 0b001111001#9 (.plainKeypadPlus) = true ∧
    decodesTo .tableEntry 0b001111010#9 (.plainKeypad3) = true ∧
    decodesTo .tableEntry 0b001111011#9 (.plainKeypadMinus) = true ∧
    decodesTo .tableEntry 0b001111100#9 (.plainKeypadMultiply) = true ∧
    decodesTo .tableEntry 0b001111101#9 (.plainKeypad9) = true ∧
    decodesTo .tableEntry 0b001111110#9 (.plainScrollLock) = true ∧
    decodesTo .tableEntry 0b010000011#9 (.plainF7) = true ∧
    decodesTo .tableEntry 0b100010001#9 (.extRightAlt) = true ∧
    decodesTo .tableEntry 0b100010100#9 (.extRightCtrl) = true ∧
    decodesTo .tableEntry 0b100011111#9 (.extLeftGUI) = true ∧
    decodesTo .tableEntry 0b100100111#9 (.extRightGUI) = true ∧
    decodesTo .tableEntry 0b100101111#9 (.extApplication) = true ∧
    decodesTo .tableEntry 0b101001010#9 (.extKeypadDivide) = true ∧
    decodesTo .tableEntry 0b101011010#9 (.extKeypadEnter) = true ∧
    decodesTo .tableEntry 0b101101001#9 (.extEnd) = true ∧
    decodesTo .tableEntry 0b101101011#9 (.extLeftArrow) = true ∧
    decodesTo .tableEntry 0b101101100#9 (.extHome) = true ∧
    decodesTo .tableEntry 0b101110000#9 (.extInsert) = true ∧
    decodesTo .tableEntry 0b101110001#9 (.extDelete) = true ∧
    decodesTo .tableEntry 0b101110010#9 (.extDownArrow) = true ∧
    decodesTo .tableEntry 0b101110100#9 (.extRightArrow) = true ∧
    decodesTo .tableEntry 0b101110101#9 (.extUpArrow) = true ∧
    decodesTo .tableEntry 0b101111010#9 (.extPageDown) = true ∧
    decodesTo .tableEntry 0b101111100#9 (.extPrintScreen) = true ∧
    decodesTo .tableEntry 0b101111101#9 (.extPageUp) = true := by decide +kernel

theorem test_decode_rejects_by_name :
    rejects .sampler 0b010000000#9 (.bitsAboveFormat .sampler) = true ∧
    rejects .stepWord 0b000010000#9 (.bitsAboveFormat .stepWord) = true ∧
    rejects .tableEntry 0b000000010#9 (.noTableEntry 2) = true ∧
    rejects .tableEntry 0b100011100#9 (.noTableEntry 284) = true := by decide

/-- The flat numbers of the table's rows (`match` of the row, its width in whole bytes). -/
theorem test_decode_flat_numbers :
    decodeTableWord 8 0x20 = some (.sStart false) ∧ decodeTableWord 8 0x2A = some (.sStop false) ∧ decodeTableWord 8 0xF0 = some .fBreak ∧
    decodeTableWord 16 0x1E0 = some (.modRelease 0) ∧ decodeTableWord 16 0x17D = some .extPageUp ∧ decodeTableWord 8 0x4 = some (.clearChanged false false) := by
  decide

/-- The very next step runs the placed operation: S.START; MOD.RELEASE(0) of a held Left Ctrl; INIT. -/
theorem test_fetch_word_runs_next :
    (match step ((st (trk 0x00#8 none6 false) []).withFetchWord 8 0x20) with | .next t => t.block.bitIndex == 1 | _ => false) = true ∧
    (match step ((st (trk 0x01#8 none6 false) []).withFetchWord 16 0x1E0) with | .next t => t.block.modifiers == 0x00#8 && t.block.changed | _ => false) = true ∧
    (match step ((st (trk 0x01#8 full6 true) []).withFetchWord 8 0x8) with | .next t => decide (t.block = Block.reset true) | _ => false) = true := by
  decide +kernel

/-! ## One step (spec/95 section 2.1 and 2.7) -/

/-- S1, S3. -/
theorem test_step_noedge :
    stepGives (dec 0 0x00#8 true false false) 0x3#4 (dec 0 0x00#8 true false false) .none = true ∧
    stepGives (dec 4 0x05#8 false false false) 0x2#4 (dec 4 0x05#8 true false false) .none = true := by decide

/-- S2, S4, S28. -/
theorem test_step_noedge_low :
    stepGives (dec 0 0x00#8 false false false) 0x0#4 (dec 0 0x00#8 false false false) .none = true ∧
    stepGives (dec 4 0x05#8 false false false) 0x1#4 (dec 4 0x05#8 false false false) .none = true ∧
    stepGives (dec 10 0x1C#8 false false false) 0x1#4 (dec 10 0x1C#8 false false false) .none = true := by decide

/-- S5, S6. -/
theorem test_step_start :
    stepGives (dec 0 0x00#8 true false false) 0x0#4 (dec 1 0x00#8 false false false) .none = true ∧
    stepGives (dec 0 0x00#8 true false false) 0x1#4 (dec 1 0x00#8 false false false) .none = true := by decide

/-- S7, S8. -/
theorem test_step_data1 :
    stepGives (dec 1 0x00#8 true false false) 0x1#4 (dec 2 0x01#8 false false false) .none = true ∧
    stepGives (dec 1 0x00#8 true false false) 0x0#4 (dec 2 0x00#8 false false false) .none = true := by decide

/-- S9, S10. -/
theorem test_step_data2_data3 :
    stepGives (dec 2 0x01#8 true false false) 0x1#4 (dec 3 0x03#8 false false false) .none = true ∧
    stepGives (dec 3 0x01#8 true false false) 0x1#4 (dec 4 0x05#8 false false false) .none = true := by decide

/-- S11, S12. -/
theorem test_step_data4_data5 :
    stepGives (dec 4 0x05#8 true false false) 0x0#4 (dec 5 0x05#8 false false false) .none = true ∧
    stepGives (dec 5 0x0D#8 true false false) 0x1#4 (dec 6 0x1D#8 false false false) .none = true := by decide

/-- S13, S14. -/
theorem test_step_data6_data7 :
    stepGives (dec 6 0x1D#8 true false false) 0x1#4 (dec 7 0x3D#8 false false false) .none = true ∧
    stepGives (dec 7 0x3D#8 true false false) 0x0#4 (dec 8 0x3D#8 false false false) .none = true := by decide

/-- S15, S16. -/
theorem test_step_data8 :
    stepGives (dec 8 0x3D#8 true false false) 0x1#4 (dec 9 0xBD#8 false false false) .none = true ∧
    stepGives (dec 8 0x7F#8 true false false) 0x0#4 (dec 9 0x7F#8 false false false) .none = true := by decide

/-- S17, S18. -/
theorem test_step_parity :
    stepGives (dec 9 0x1C#8 true false false) 0x0#4 (dec 10 0x1C#8 false false false) .none = true ∧
    stepGives (dec 9 0x1C#8 true false false) 0x1#4 (dec 10 0x1C#8 false false false) .none = true := by decide

/-- S21, S24. -/
theorem test_step_stop_break :
    stepGives (dec 10 0xF0#8 true false false) 0x1#4 (dec 0 0x00#8 false true false) .none = true ∧
    stepGives (dec 10 0xF0#8 true true false) 0x1#4 (dec 0 0x00#8 false true false) .none = true := by decide

/-- S22, S25. -/
theorem test_step_stop_extended :
    stepGives (dec 10 0xE0#8 true false false) 0x1#4 (dec 0 0x00#8 false false true) .none = true ∧
    stepGives (dec 10 0xE0#8 true true false) 0x1#4 (dec 0 0x00#8 false true true) .none = true := by decide

/-- S26, S27. -/
theorem test_step_stop_terminal_unmapped :
    stepGives (dec 10 0xE1#8 true false true) 0x1#4 (dec 0 0x00#8 false false false) (.event ⟨0xE1#8, false, true⟩) = true ∧
    stepGives (dec 10 0x00#8 true false false) 0x1#4 (dec 0 0x00#8 false false false) (.event ⟨0x00#8, false, false⟩) = true := by decide

/-- S19 and S20, with the A key in its slot afterwards; S23: the break of a Right Arrow that is not held. -/
theorem test_step_stop_terminal :
    stepGives (dec 10 0x1C#8 true false false) 0x1#4 (blk 0 0x00#8 false false false 0x00#8 (one6 0x04#8) true) (.event ⟨0x1C#8, false, false⟩) = true ∧
    stepGives (dec 10 0x1C#8 true false false) 0x0#4 (blk 0 0x00#8 false false false 0x00#8 (one6 0x04#8) true) (.event ⟨0x1C#8, false, false⟩) = true ∧
    stepGives (dec 10 0x74#8 true true true) 0x1#4 (dec 0 0x00#8 false false false) (.event ⟨0x74#8, true, true⟩) = true := by decide

/-- Z1, Z3: a clear alone clears; a mutation of the same step wins. -/
theorem test_step_clear_and_mutation :
    stepGives (blk 0 0x00#8 true false false 0x02#8 (one6 0x04#8) true) 0x7#4 (blk 0 0x00#8 true false false 0x02#8 (one6 0x04#8) false) .none = true ∧
    stepGives (blk 10 0x1C#8 true false false 0x00#8 none6 true) 0x5#4 (blk 0 0x00#8 false false false 0x00#8 (one6 0x04#8) true)
      (.event ⟨0x1C#8, false, false⟩) = true := by decide

/-- Z4, Z5: a clear with an event that mutates nothing clears. -/
theorem test_step_clear_with_no_mutation :
    stepGives (blk 10 0x1C#8 true false false 0x00#8 (one6 0x04#8) true) 0x5#4 (blk 0 0x00#8 false false false 0x00#8 (one6 0x04#8) false)
      (.event ⟨0x1C#8, false, false⟩) = true ∧
    stepGives (blk 10 0xAA#8 true false false 0x00#8 (one6 0x04#8) true) 0x5#4 (blk 0 0x00#8 false false false 0x00#8 (one6 0x04#8) false)
      (.event ⟨0xAA#8, false, false⟩) = true := by decide

/-- Z6, Z9: a break event sets `changed`; a clear beside a data bit. -/
theorem test_step_break_event_and_clear_in_frame :
    stepGives (blk 10 0x1C#8 true true false 0x00#8 (one6 0x04#8) false) 0x1#4 (blk 0 0x00#8 false false false 0x00#8 none6 true)
      (.event ⟨0x1C#8, true, false⟩) = true ∧
    stepGives (blk 3 0x01#8 true false false 0x02#8 (one6 0x04#8) true) 0x5#4 (blk 4 0x05#8 false false false 0x02#8 (one6 0x04#8) false) .none = true := by
  decide

/-- Z7, Z8: a reset wins over everything else of its step, and its clock level is not sampled (`PREV_CLK_RESET = 1`, notes/assumptions/6.md). -/
theorem test_step_reset :
    stepGives (blk 10 0x1C#8 true false false 0x00#8 none6 true) 0xD#4 (Block.reset true) .none = true ∧
    stepGives (blk 7 0x2A#8 false true true 0x02#8 (one6 0x04#8) true) 0x8#4 (Block.reset true) .none = true := by decide

/-- The event ports of S23 and of a data bit (R25). -/
theorem test_event_ports :
    (dec 10 0x74#8 true true true).eventPorts 0x1#4 = ⟨true, 0x74#8, true, true⟩ ∧
    (dec 3 0x01#8 true true true).eventPorts 0x1#4 = ⟨false, 0x00#8, false, false⟩ := by decide

/-- The digits of R78 and R79: `IDLE`, `CLR`, `RST`, and frame F1. -/
theorem test_stimulus_notation :
    stimIdle 2 = [3, 3] ∧ stimCLR = 7 ∧ stimRST = 11 ∧
    stimFrame 0x1C#8 = [2, 0, 2, 0, 2, 0, 3, 1, 3, 1, 3, 1, 2, 0, 2, 0, 2, 0, 2, 0, 3, 1] := by decide

/-! ## The frame-byte operations, the tables and the tracker (R110 to R112 examples; spec/95 sections 2.4 to 2.6) -/

theorem test_exec_frame_byte :
    execGives .fBreak (dec 0 0x00#8 false false true) (dec 0 0x00#8 false true true) .none = true ∧
    execGives .fExt (dec 0 0x00#8 false false false) (dec 0 0x00#8 false false true) .none = true ∧
    execGives (.fTerm 0x74) (dec 0 0x00#8 false true true) (dec 0 0x00#8 false false false) (.event ⟨0x74#8, true, true⟩) = true := by decide

/-- The examples of R120. -/
theorem test_exec_lookup :
    execGives (.tLookup false 0x1C) (trk 0x00#8 none6 false) (trk 0x00#8 none6 false) (.identity 0x04#8) = true ∧
    execGives (.tLookup true 0x1C) (trk 0x00#8 none6 false) (trk 0x00#8 none6 false) (.identity 0x00#8) = true := by decide

/-- Two rows of the table-entry families: plain F7 (M21) and extended Print Screen (M28). -/
theorem test_exec_table_entry :
    execGives .plainF7 (trk 0x00#8 none6 false) (trk 0x00#8 none6 false) (.identity 0x40#8) = true ∧
    execGives .extPrintScreen (trk 0x00#8 none6 false) (trk 0x00#8 none6 false) (.identity 0x46#8) = true := by decide

/-- The M vectors: `is_extended`, code, identity, class. -/
def mapperVectors : List (Bool × Byte × Byte × IdClass) :=
  [(false, 0x1C#8, 0x04#8, IdClass.ordinary), (true, 0x1C#8, 0x00#8, IdClass.unmapped), (false, 0x12#8, 0xE1#8, IdClass.modifier 1),
   (true, 0x12#8, 0x00#8, IdClass.unmapped), (false, 0x14#8, 0xE0#8, IdClass.modifier 0), (true, 0x14#8, 0xE4#8, IdClass.modifier 4),
   (false, 0x11#8, 0xE2#8, IdClass.modifier 2), (true, 0x11#8, 0xE6#8, IdClass.modifier 6), (true, 0x1F#8, 0xE3#8, IdClass.modifier 3),
   (false, 0x1F#8, 0x00#8, IdClass.unmapped), (true, 0x27#8, 0xE7#8, IdClass.modifier 7), (false, 0x59#8, 0xE5#8, IdClass.modifier 5),
   (true, 0x59#8, 0x00#8, IdClass.unmapped), (false, 0x58#8, 0xE8#8, IdClass.capsLock), (false, 0x74#8, 0x5E#8, IdClass.ordinary),
   (true, 0x74#8, 0x4F#8, IdClass.ordinary), (false, 0x5A#8, 0x28#8, IdClass.ordinary), (true, 0x5A#8, 0x58#8, IdClass.ordinary),
   (false, 0x83#8, 0x40#8, IdClass.ordinary), (false, 0x84#8, 0x00#8, IdClass.unmapped), (false, 0x00#8, 0x00#8, IdClass.unmapped),
   (false, 0xFF#8, 0x00#8, IdClass.unmapped), (false, 0xAA#8, 0x00#8, IdClass.unmapped), (false, 0xE1#8, 0x00#8, IdClass.unmapped),
   (false, 0x7C#8, 0x55#8, IdClass.ordinary), (true, 0x7C#8, 0x46#8, IdClass.ordinary)]

theorem test_default_tables_and_classes :
    mapperVectors.all (fun v => Config.standard.lookup v.1 v.2.1 == v.2.2.1 && Config.standard.classify v.2.2.1 == v.2.2.2) = true := by decide +kernel

/-- R160, R161, R163: 86 and 18 entries; every one an ordinary identity 0x04..0x65 or a sentinel 0xE0..0xE8; each sentinel once. -/
theorem test_default_tables_shape :
    defaultPlainTable.length = 86 ∧ defaultExtTable.length = 18 ∧
    (defaultPlainTable ++ defaultExtTable).all
      (fun c => (0x04 ≤ c.2.toNat && c.2.toNat ≤ 0x65) || (0xE0 ≤ c.2.toNat && c.2.toNat ≤ 0xE8)) = true ∧
    Config.standard.sentinels.all (fun id => (defaultPlainTable ++ defaultExtTable).countP (fun c => c.2 == id) == 1) = true := by decide +kernel

/-- The bounds of the classes of R42. -/
theorem test_identity_class_bounds :
    Config.standard.classify 0x01#8 = .ordinary ∧ Config.standard.classify 0xDF#8 = .ordinary ∧ Config.standard.classify 0xE7#8 = .modifier 7 ∧
    Config.standard.classify 0xE9#8 = .reserved ∧ Config.standard.classify 0xFF#8 = .reserved := by decide

/-- K1, K3. -/
theorem test_mod_press :
    execGives (.modPress 1) (trk 0x00#8 none6 false) (trk 0x02#8 none6 true) .none = true ∧
    execGives (.modPress 1) (trk 0x02#8 (one6 0x04#8) false) (trk 0x02#8 (one6 0x04#8) false) .none = true := by decide

/-- K2, K6. -/
theorem test_mod_release :
    execGives (.modRelease 1) (trk 0x22#8 none6 false) (trk 0x20#8 none6 true) .none = true ∧
    execGives (.modRelease 4) (trk 0xFF#8 full6 false) (trk 0xEF#8 full6 true) .none = true := by decide

/-- K10, K12. -/
theorem test_ord_press :
    execGives (.ordPress 0x05) (trk 0x00#8 #v[0x04#8, 0x00#8, 0x06#8, 0x00#8, 0x00#8, 0x00#8] false)
      (trk 0x00#8 #v[0x04#8, 0x05#8, 0x06#8, 0x00#8, 0x00#8, 0x00#8] true) .none = true ∧
    execGives (.ordPress 0x0A) (trk 0x00#8 full6 false) (trk 0x00#8 full6 false) .none = true := by decide

/-- K11, K26. -/
theorem test_ord_release :
    execGives (.ordRelease 0x05) (trk 0x00#8 #v[0x04#8, 0x05#8, 0x06#8, 0x00#8, 0x00#8, 0x00#8] false)
      (trk 0x00#8 #v[0x04#8, 0x00#8, 0x06#8, 0x00#8, 0x00#8, 0x00#8] true) .none = true ∧
    execGives (.ordRelease 0x04) (trk 0x00#8 #v[0x00#8, 0x00#8, 0x00#8, 0x00#8, 0x00#8, 0x04#8] false) (trk 0x00#8 none6 true) .none = true := by decide

/-- K20, K21, K23. -/
theorem test_caps :
    execGives .capsPress (trk 0x00#8 none6 false) (trk 0x00#8 (one6 0x39#8) true) .none = true ∧
    execGives .capsRelease (trk 0x00#8 (one6 0x39#8) false) (trk 0x00#8 none6 true) .none = true ∧
    execGives .capsPress (trk 0x00#8 full6 false) (trk 0x00#8 full6 false) .none = true := by decide

/-- K24's first event; K22: Caps Lock held; K6 by its event. -/
theorem test_dispatch :
    dispatchGives 0xAA#8 false false (trk 0x05#8 (one6 0x04#8) false) (trk 0x05#8 (one6 0x04#8) false) = true ∧
    dispatchGives 0x58#8 false false (trk 0x00#8 (one6 0x39#8) false) (trk 0x00#8 (one6 0x39#8) false) = true ∧
    dispatchGives 0x14#8 true true (trk 0xFF#8 full6 false) (trk 0xEF#8 full6 true) = true := by decide

theorem test_exec_unmapped : execGives (.kUnmapped true) (trk 0x05#8 (one6 0x04#8) false) (trk 0x05#8 (one6 0x04#8) false) .none = true := by decide

/-- Q5. -/
theorem test_queries :
    execGives .getModifiers (trk 0x40#8 #v[0x00#8, 0x00#8, 0x00#8, 0x00#8, 0x00#8, 0x4F#8] true)
      (trk 0x40#8 #v[0x00#8, 0x00#8, 0x00#8, 0x00#8, 0x00#8, 0x4F#8] true) (.modifiers 0x40#8) = true ∧
    execGives .getKeys (trk 0x40#8 #v[0x00#8, 0x00#8, 0x00#8, 0x00#8, 0x00#8, 0x4F#8] true)
      (trk 0x40#8 #v[0x00#8, 0x00#8, 0x00#8, 0x00#8, 0x00#8, 0x4F#8] true) (.keys #v[0x00#8, 0x00#8, 0x00#8, 0x00#8, 0x00#8, 0x4F#8]) = true ∧
    execGives .hasChanged (trk 0x40#8 none6 true) (trk 0x40#8 none6 true) (.changed true) = true := by decide

/-- Q3, Q4. -/
theorem test_report :
    execGives .report (trk 0x00#8 #v[0x04#8, 0x00#8, 0x06#8, 0x00#8, 0x00#8, 0x00#8] true) (trk 0x00#8 #v[0x04#8, 0x00#8, 0x06#8, 0x00#8, 0x00#8, 0x00#8] true)
      (.report #v[0x00#8, 0x00#8, 0x04#8, 0x00#8, 0x06#8, 0x00#8, 0x00#8, 0x00#8]) = true ∧
    execGives .report (trk 0xFF#8 full6 false) (trk 0xFF#8 full6 false)
      (.report #v[0xFF#8, 0x00#8, 0x04#8, 0x05#8, 0x06#8, 0x07#8, 0x08#8, 0x09#8]) = true := by decide

theorem test_clear_changed : execGives (.clearChanged true true) (trk 0x02#8 full6 true) (trk 0x02#8 full6 false) .none = true := by decide

/-- The examples of R173 and R174. -/
theorem test_init :
    execGives (.initLink false true true) (blk 7 0x2A#8 false true false 0x02#8 full6 true) (blk 0 0x00#8 true false false 0x02#8 full6 true) .none = true ∧
    execGives (.initState false true true) (blk 7 0x2A#8 false true false 0x02#8 (one6 0x04#8) true) (blk 7 0x2A#8 false true false 0x00#8 none6 false)
      .none = true := by decide

/-- R74, R76. -/
theorem test_reserved_rows_refuse :
    execRefuses (.reservedBitIndex11 true false true) (.reservedBitIndex 11) = true ∧
    execRefuses (.reservedBitIndex12 true false true) (.reservedBitIndex 12) = true ∧
    execRefuses (.reservedBitIndex13 true false true) (.reservedBitIndex 13) = true ∧
    execRefuses (.reservedBitIndex14 true false true) (.reservedBitIndex 14) = true ∧
    execRefuses (.reservedBitIndex15 true false true) (.reservedBitIndex 15) = true ∧
    execRefuses (.reservedIdent false 0xE9) (.reservedIdentity 0xE9#8) = true := by decide

/-- R27 with the model's parameters: State.reset. -/
theorem test_reset :
    State.reset.block = ⟨0, 0x00#8, true, false, false, 0x00#8, none6, false⟩ ∧ State.reset.config = Config.standard ∧ State.reset.stimulus = [] := by decide

/-! ## Witnesses: each obligation with hypotheses has states and operands that meet them together -/

/-- The configuration hypothesis of every statement; and one that fails it, for W1, W2, W3 and W5 each. -/
theorem witness_config :
    Config.standard.wf = true ∧
    { Config.standard with plainTable := Memory.write Config.standard.plainTable 0 0xE9#8 }.wf = false ∧
    { Config.standard with sentCaps := 0xE0#8 }.wf = false ∧
    { Config.standard with idCapsLock := 0xE8#8 }.wf = false ∧
    { Config.standard with plainTable := Memory.write Config.standard.plainTable 0x12 0xE2#8 }.wf = false := by decide +kernel

/-- A second well-formed configuration, with other tables, sentinels and reset level. -/
def otherConfig : Config :=
  { plainTable := [(0x12, 0xF1#8), (0x1C, 0x11#8), (0x21, 0x11#8)], extTable := [(0x1C, 0xF8#8)],
    sentMod := #v[0xF0#8, 0xF1#8, 0xF2#8, 0xF3#8, 0xF4#8, 0xF5#8, 0xF6#8, 0xF7#8], sentCaps := 0xF8#8, ordinaryFirst := 0x10#8, ordinaryLast := 0x80#8,
    idCapsLock := 0x80#8, prevClkReset := true }

theorem witness_other_config : otherConfig.wf = true := by decide +kernel

/-- EncodedOperationDecodesToItself: a well-formed operation at the edge of its range that is neither exception. -/
theorem witness_EncodedOperationDecodesToItself :
    (Instr.sNoedgeHigh 10 true).wf = true ∧ (∀ c d, Instr.sNoedgeHigh 10 true ≠ .step true c d) ∧
    (∀ l c d, Instr.sNoedgeHigh 10 true ≠ .initState l c d) := by decide

theorem witness_DecodedWordEncodesBack : decode ⟨.ident, 0b111011111#9⟩ = .ok (.ordRelease 0xDF) := by rfl

theorem witness_StepRunsTheDecodedWord :
    (st (trk 0x00#8 none6 false) []).config.wf = true ∧ (st (trk 0x00#8 none6 false) [0x4#4]).stimulus.headD 0b0011#4 = 0x4#4 ∧
    (st (trk 0x00#8 none6 false) []).stimulus.headD 0b0011#4 = 0x3#4 := ⟨Config.standard_wf, by decide⟩

theorem witness_StepAnswersNextExactlyOnWellFormedConfig :
    (st (trk 0x00#8 none6 false) []).config.wf = true ∧
    ({ st (trk 0x00#8 none6 false) [] with config := { Config.standard with idCapsLock := 0x00#8 } } : State).config.wf = false := ⟨Config.standard_wf, by decide⟩

/-- StepComposesItsSelectedOperations: no event; and an event of each class (unmapped, modifier, Caps Lock, ordinary). -/
theorem witness_StepComposesItsSelectedOperations :
    (st (dec 9 0x1C#8 true false false) []).config.wf = true ∧
    (pollLink false true (dec 9 0x1C#8 true false false)).2 = none ∧
    (pollLink false true (dec 10 0xAA#8 true false false)).2 = some ⟨0xAA#8, false, false⟩ ∧
    Config.standard.lookup false 0xAA#8 = 0x00#8 ∧ Config.standard.lookup true 0x27#8 = Config.standard.sentMod[7] ∧
    Config.standard.lookup false 0x58#8 = Config.standard.sentCaps ∧ Config.standard.inOrdinaryRange (Config.standard.lookup false 0x1C#8) = true := ⟨Config.standard_wf, by decide⟩

/-- The hypotheses of ChangedIsResolvedAfterTheMutation, FrameSequencerFollowsTheFallingEdges and AtMostOneSlotOrModifierBitPerStep, with a mutation. -/
theorem witness_step_without_reset :
    (st (dec 10 0x1C#8 true false false) [0x5#4]).config.wf = true ∧ (st (dec 10 0x1C#8 true false false) [0x5#4]).stimulus = 0x5#4 :: [] ∧
    (0x5#4 : StepWord).getLsbD 3 = false ∧ (0x5#4 : StepWord).getLsbD 2 = true := ⟨Config.standard_wf, by decide⟩

theorem witness_ResetStepGivesTheResetState :
    (st (blk 7 0x2A#8 false true true 0x02#8 full6 true) [0x8#4, 0x3#4]).config.wf = true ∧
    (st (blk 7 0x2A#8 false true true 0x02#8 full6 true) [0x8#4, 0x3#4]).stimulus = 0x8#4 :: [0x3#4] ∧ (0x8#4 : StepWord).getLsbD 3 = true := ⟨Config.standard_wf, by decide⟩

theorem witness_OnlyAStopBitTouchesFlagsAndKeys :
    (st (dec 9 0x1C#8 true true false) [0x1#4]).config.wf = true ∧ (st (dec 9 0x1C#8 true true false) [0x1#4]).stimulus = 0x1#4 :: [] ∧
    (0x1#4 : StepWord).getLsbD 3 = false ∧
    ¬ ((dec 9 0x1C#8 true true false).previousClock = true ∧ (0x1#4 : StepWord).getLsbD 1 = false ∧ (dec 9 0x1C#8 true true false).bitIndex = 10) := ⟨Config.standard_wf, by decide⟩

/-- DataLevelMattersOnlyInDataBits: both ends outside the range of `bit_index`, and no falling edge inside it. -/
theorem witness_DataLevelMattersOnlyInDataBits :
    ¬ ((dec 0 0x00#8 true false false).previousClock = true ∧ false = false ∧ 1 ≤ (dec 0 0x00#8 true false false).bitIndex.val ∧
        (dec 0 0x00#8 true false false).bitIndex.val ≤ 8) ∧
    ¬ ((dec 9 0x00#8 true false false).previousClock = true ∧ false = false ∧ 1 ≤ (dec 9 0x00#8 true false false).bitIndex.val ∧
        (dec 9 0x00#8 true false false).bitIndex.val ≤ 8) ∧
    ¬ ((dec 8 0x00#8 false false false).previousClock = true ∧ false = false ∧ 1 ≤ (dec 8 0x00#8 false false false).bitIndex.val ∧
        (dec 8 0x00#8 false false false).bitIndex.val ≤ 8) := by decide

/-- DecoderIgnoresTablesAndKeys: different tables, keys and queues of inputs, the same decoder elements. -/
theorem witness_DecoderIgnoresTablesAndKeys :
    (st (blk 10 0x1C#8 true true false 0x01#8 full6 true) [0x1#4]).config.wf = true ∧ otherConfig.wf = true ∧
    Config.standard.prevClkReset = otherConfig.prevClkReset ∧
    (⟨dec 10 0x1C#8 true true false, otherConfig, [0x1#4, 0x3#4], .none⟩ : State).stimulus = 0x1#4 :: [0x3#4] ∧
    SameDecoder (blk 10 0x1C#8 true true false 0x01#8 full6 true) (dec 10 0x1C#8 true true false) :=
  ⟨Config.standard_wf, witness_other_config, by decide, rfl, rfl, rfl, rfl, rfl, rfl⟩

/-- EventPortsShowTheTerminalScancode: a terminal byte beside a prefix value, and a prefix. -/
theorem witness_EventPortsShowTheTerminalScancode :
    (st (dec 10 0xF1#8 true true true) [0x0#4]).config.wf = true ∧ (st (dec 10 0xF1#8 true true true) [0x0#4]).stimulus = 0x0#4 :: [] ∧
    ((0x0#4 : StepWord).getLsbD 3 = false ∧ (dec 10 0xF1#8 true true true).previousClock = true ∧ (0x0#4 : StepWord).getLsbD 1 = false ∧
      (dec 10 0xF1#8 true true true).bitIndex = 10 ∧ (dec 10 0xF1#8 true true true).byteValue ≠ 0xF0#8 ∧ (dec 10 0xF1#8 true true true).byteValue ≠ 0xE0#8) ∧
    ¬ ((0x0#4 : StepWord).getLsbD 3 = false ∧ (dec 10 0xE0#8 true true true).previousClock = true ∧ (0x0#4 : StepWord).getLsbD 1 = false ∧
      (dec 10 0xE0#8 true true true).bitIndex = 10 ∧ (dec 10 0xE0#8 true true true).byteValue ≠ 0xF0#8 ∧ (dec 10 0xE0#8 true true true).byteValue ≠ 0xE0#8) := ⟨Config.standard_wf, by decide⟩

theorem witness_LeftShiftMakeSetsModifierBitOne :
    (st (blk 10 0x12#8 true false false 0x80#8 full6 false) []).config.wf = true ∧ (dec 10 0x12#8 true false false).previousClock = true ∧
    (dec 10 0x12#8 true false false).bitIndex = 10 ∧ (dec 10 0x12#8 true false false).byteValue = 0x12#8 ∧
    (dec 10 0x12#8 true false false).breakPending = false ∧ (dec 10 0x12#8 true false false).extendedPending = false := ⟨Config.standard_wf, by decide⟩

theorem witness_MakeOfAPutsItsIdentityIntoTheFirstSlot :
    (st (dec 10 0x1C#8 true false false) []).config.wf = true ∧ (dec 10 0x1C#8 true false false).previousClock = true ∧
    (dec 10 0x1C#8 true false false).bitIndex = 10 ∧ (dec 10 0x1C#8 true false false).byteValue = 0x1C#8 ∧
    (dec 10 0x1C#8 true false false).breakPending = false ∧ (dec 10 0x1C#8 true false false).extendedPending = false ∧
    (∀ i : Fin 6, (dec 10 0x1C#8 true false false).keys[i] = 0x00#8) := ⟨Config.standard_wf, by decide⟩

/-- A state in the middle of a frame with A held has the invariants. -/
theorem inv_of_a_held_state : Inv (st (blk 4 0x05#8 true true false 0x02#8 (one6 0x04#8) true) [0x1#4]) where
  config_wf := Config.standard_wf
  accumulator_clear := by
    refine ⟨fun h => absurd h (by decide), fun k _ _ hk => ?_⟩
    have h : (4 : Nat) = k + 1 := hk
    have : k = 3 := by omega
    subst this; decide
  keys_distinct := by unfold KeysDistinct; decide
  keys_mapped := by
    intro i
    refine ⟨by revert i; decide, fun h => .inr ⟨by revert i; decide, false, 0x1C#8, by revert i; decide⟩⟩

theorem witness_EveryStepKeepsTheInvariants :
    ∃ t, Inv (st (blk 4 0x05#8 true true false 0x02#8 (one6 0x04#8) true) [0x1#4]) ∧
      step (st (blk 4 0x05#8 true true false 0x02#8 (one6 0x04#8) true) [0x1#4]) = .next t :=
  ⟨_, inv_of_a_held_state, rfl⟩

theorem witness_ChangedImpliesAMutationInTheRun :
    ∃ t : State, (st (dec 10 0x1C#8 true false false) [0x1#4]).block.changed = false ∧
      Host.Core.run core 1 (st (dec 10 0x1C#8 true false false) [0x1#4]) = .next t ∧ t.block.changed = true :=
  ⟨_, rfl, rfl, by decide⟩

theorem witness_BitIndexCountsFallingEdgesModuloEleven :
    (st (dec 10 0x1C#8 true false false) ([0x1#4, 0x6#4, 0x0#4] ++ [0x3#4])).config.wf = true ∧
    (∀ w ∈ ([0x1#4, 0x6#4, 0x0#4] : List StepWord), w.getLsbD 3 = false) ∧ fallingEdges true [0x1#4, 0x6#4, 0x0#4] = 2 := ⟨Config.standard_wf, by decide⟩

theorem witness_SamplesWithoutAFallingEdgeChangeNothing :
    (st (dec 3 0x01#8 false true false) ([0x0#4, 0x1#4, 0x2#4, 0x3#4] ++ [])).config.wf = true ∧
    (∀ w ∈ ([0x0#4, 0x1#4, 0x2#4, 0x3#4] : List StepWord), w.getLsbD 3 = false ∧ w.getLsbD 2 = false) ∧
    fallingEdges (dec 3 0x01#8 false true false).previousClock [0x0#4, 0x1#4, 0x2#4, 0x3#4] = 0 := ⟨Config.standard_wf, by decide⟩

/-- Eleven carried bits of 0x1C with a wrong start, parity and stop, stretched. -/
def carriedFrame : List CarriedBit :=
  (frameLevels true 0x1C#8 true false).map (fun b => ⟨!b, [b], b, [!b, !b]⟩)

theorem witness_WellSampledFrameDeliversItsByte :
    (st (dec 0 0x00#8 false false false) (carriedFrame.flatMap CarriedBit.samples ++ [0x3#4])).config.wf = true ∧
    (dec 0 0x00#8 false false false).bitIndex = 0 ∧ carriedFrame.map (·.level) = frameLevels true 0x1C#8 true false ∧
    (st (dec 0 0x00#8 false false false) (carriedFrame.flatMap CarriedBit.samples ++ [0x3#4])).stimulus =
      carriedFrame.flatMap CarriedBit.samples ++ [0x3#4] := ⟨Config.standard_wf, by decide⟩

theorem witness_DataBitIsPutInItsPosition :
    (1, Instr.sData1 true) ∈ [(1, Instr.sData1 true), (2, .sData2 true), (3, .sData3 true), (4, .sData4 true), (5, .sData5 true), (6, .sData6 true),
      (7, .sData7 true), (8, .sData8 true)] ∧
    (8, Instr.sData8 true) ∈ [(1, Instr.sData1 true), (2, .sData2 true), (3, .sData3 true), (4, .sData4 true), (5, .sData5 true), (6, .sData6 true),
      (7, .sData7 true), (8, .sData8 true)] := by decide

theorem witness_StopBitHandsOverTheFrameByte :
    (dec 10 0xF0#8 true false false).byteValue = 0xF0#8 ∧ (dec 10 0xE0#8 true false false).byteValue = 0xE0#8 ∧
    (dec 10 0xE1#8 true false false).byteValue ≠ 0xF0#8 ∧ (dec 10 0xE1#8 true false false).byteValue ≠ 0xE0#8 := by decide

theorem witness_TableEntryRowsReadTheirEntry :
    (encode .plainF9).format = .tableEntry ∧ (encode .extPageUp).format = .tableEntry ∧
    (st (trk 0x00#8 none6 false) []).config = Config.standard := by decide

theorem witness_DefaultTablesAreInjective :
    Config.standard.lookup false 0x12#8 ≠ 0x00#8 ∧ Config.standard.lookup false 0x12#8 = Config.standard.lookup false 0x12#8 := by decide

theorem witness_OrdinaryPressTakesTheFirstEmptySlot :
    (∃ i : Fin 6, full6[i] = 0x09#8) ∧
    ((∀ i : Fin 6, full6[i] ≠ 0x0A#8) ∧ ∀ i : Fin 6, full6[i] ≠ 0x00#8) ∧
    ((∀ i : Fin 6, none6[i] ≠ 0x04#8) ∧ none6[(0 : Fin 6)] = 0x00#8 ∧ ∀ j : Fin 6, j < 0 → none6[j] ≠ 0x00#8) ∧
    ((∀ i : Fin 6, (#v[0x05#8, 0x06#8, 0x07#8, 0x08#8, 0x09#8, 0x00#8] : Vector Byte 6)[i] ≠ 0x04#8) ∧
      (#v[0x05#8, 0x06#8, 0x07#8, 0x08#8, 0x09#8, 0x00#8] : Vector Byte 6)[(5 : Fin 6)] = 0x00#8 ∧
      ∀ j : Fin 6, j < 5 → (#v[0x05#8, 0x06#8, 0x07#8, 0x08#8, 0x09#8, 0x00#8] : Vector Byte 6)[j] ≠ 0x00#8) := by decide

theorem witness_OrdinaryReleaseEmptiesTheMatchingSlot :
    (∀ i : Fin 6, full6[i] ≠ 0x0A#8) ∧
    (full6[(0 : Fin 6)] = 0x04#8 ∧ ∀ j : Fin 6, j < 0 → full6[j] ≠ 0x04#8) ∧
    (full6[(5 : Fin 6)] = 0x09#8 ∧ ∀ j : Fin 6, j < 5 → full6[j] ≠ 0x09#8) := by decide

theorem witness_TrackerSetsChangedExactlyOnAMutation :
    ∃ t, (st (trk 0x00#8 none6 false) []).config.wf = true ∧ (Instr.ordPress 0xDF#8).wf = true ∧ (∃ id, Instr.ordPress 0xDF#8 = .ordPress id) ∧
      exec (.ordPress 0xDF#8) (st (trk 0x00#8 none6 false) []) = .next t :=
  ⟨_, Config.standard_wf, by decide, ⟨_, rfl⟩, rfl⟩

theorem witness_RepeatedPressChangesNothing :
    ∃ t, (∃ n, Instr.modPress 7 = .modPress n) ∧ exec (.modPress 7) (st (trk 0x00#8 none6 false) []) = .next t := ⟨_, ⟨7, rfl⟩, rfl⟩

theorem witness_ReleaseOfAnUntrackedKeyChangesNothing :
    (0x7F#8 : Byte).getLsbD 7 = false ∧ (∀ i : Fin 6, full6[i] ≠ 0x0A#8) ∧ (∀ i : Fin 6, full6[i] ≠ Config.standard.idCapsLock) := by decide

theorem witness_SevenKeysLeaveTheFirstSix :
    (∀ i j : Fin 7, (#v[0x04#8, 0x05#8, 0x06#8, 0x07#8, 0x08#8, 0x09#8, 0x0A#8] : Vector Byte 7)[i] =
        (#v[0x04#8, 0x05#8, 0x06#8, 0x07#8, 0x08#8, 0x09#8, 0x0A#8] : Vector Byte 7)[j] → i = j) ∧
    (∀ i : Fin 7, (#v[0x04#8, 0x05#8, 0x06#8, 0x07#8, 0x08#8, 0x09#8, 0x0A#8] : Vector Byte 7)[i] ≠ 0x00#8) ∧
    (∀ i : Fin 6, none6[i] = 0x00#8) := by decide

theorem witness_PressThenReleaseRestoresTheState :
    (0x7F#8 : Byte).getLsbD 7 = false ∧
    (0x04#8 ≠ 0x00#8 ∧ (∀ i : Fin 6, (#v[0x05#8, 0x06#8, 0x07#8, 0x08#8, 0x09#8, 0x00#8] : Vector Byte 6)[i] ≠ 0x04#8) ∧
      ∃ i : Fin 6, (#v[0x05#8, 0x06#8, 0x07#8, 0x08#8, 0x09#8, 0x00#8] : Vector Byte 6)[i] = 0x00#8) ∧
    ((∀ i : Fin 6, full6[i] ≠ 0x0A#8) ∧ ∀ i : Fin 6, full6[i] ≠ 0x00#8) := by decide

theorem witness_PressThenReleaseOfAHeldKeyRemovesIt :
    KeysDistinct (trk 0x02#8 full6 false) ∧ 0x09#8 ≠ 0x00#8 ∧ ∃ i : Fin 6, full6[i] = 0x09#8 := by
  unfold KeysDistinct; decide

theorem witness_NoOperationWritesTheParameters :
    ∃ t, exec (.step false false true) (st (dec 10 0x1C#8 true false false) [0x3#4]) = .next t := ⟨_, rfl⟩

/-- WritersAreThoseOfTheAccessTable: for each element an operation that changes it. -/
theorem witness_WritersAreThoseOfTheAccessTable :
    (∃ t, exec (.sStop true) (st (blk 10 0x1C#8 true true true 0x00#8 none6 false) []) = .next t ∧ (∀ l c d, Instr.sStop true ≠ .step l c d) ∧
      t.block.bitIndex ≠ 10 ∧ t.block.byteValue ≠ 0x1C#8 ∧ t.block.previousClock ≠ true ∧ t.block.breakPending ≠ true ∧ t.block.extendedPending ≠ true) ∧
    (∃ t, exec (.modPress 0) (st (trk 0x00#8 none6 false) []) = .next t ∧ t.block.modifiers ≠ 0x00#8 ∧ t.block.changed ≠ false) ∧
    (∃ t, exec .capsPress (st (trk 0x00#8 none6 false) []) = .next t ∧ t.block.keys ≠ none6) :=
  ⟨⟨_, rfl, by decide, by decide, by decide, by decide, by decide, by decide⟩, ⟨_, rfl, by decide, by decide⟩, ⟨_, rfl, by decide⟩⟩

end Sys2Proof.Tests
end

/-! PROOF. What a step of a well-configured machine does to the decoder's elements, its event, the parameters and the queue (R4, R20, R170). -/

namespace Sys2Proof

open Machine

/-! ## Agreement on the decoder's elements -/

theorem SameDecoder.refl (b : Block) : SameDecoder b b := ⟨rfl, rfl, rfl, rfl, rfl⟩

theorem SameDecoder.symm {a b : Block} (h : SameDecoder a b) : SameDecoder b a := by
  obtain ⟨hi, hv, hp, hb, he⟩ := h
  exact ⟨hi.symm, hv.symm, hp.symm, hb.symm, he.symm⟩

theorem SameDecoder.trans {a b c : Block} (h : SameDecoder a b) (h' : SameDecoder b c) : SameDecoder a c := by
  obtain ⟨hi, hv, hp, hb, he⟩ := h
  obtain ⟨hi', hv', hp', hb', he'⟩ := h'
  exact ⟨hi.trans hi', hv.trans hv', hp.trans hp', hb.trans hb', he.trans he'⟩

namespace Machine

theorem settle_decoder (clr : Bool) (b t : Block) : SameDecoder (settle clr b t) t := ⟨rfl, rfl, rfl, rfl, rfl⟩

/-! ## The tracker on an event -/

/-- Whatever the tracker does with an identity leaves the decoder's elements (R20). -/
theorem trackIdentity_decoder {cfg : Config} {isBreak : Bool} {id : Byte} {b t : Block} (h : trackIdentity cfg isBreak id b = some t) :
    SameDecoder t b := by
  rcases trackIdentity_cases cfg isBreak id b with ⟨_, ht⟩ | ⟨n, _, ht⟩ | ⟨_, ht⟩ | ⟨_, ht⟩ | ⟨_, ht⟩ <;>
    rw [ht] at h <;> cases h
  · exact SameDecoder.refl b
  · cases isBreak
    · exact modPress_decoder n b
    · exact modRelease_decoder n b
  · cases isBreak
    · exact ordPress_decoder _ b
    · exact ordRelease_decoder _ b
  · cases isBreak
    · exact ordPress_decoder id b
    · exact ordRelease_decoder id b

/-- With well-formed tables the tracker has a rule for every event (R43 W1, R76). -/
theorem dispatch_isSome {cfg : Config} (h : cfg.wf = true) (e : Event) (b : Block) : ∃ t, dispatch cfg e b = some t := by
  rcases trackIdentity_cases cfg e.isBreak (cfg.lookup e.isExtended e.code) b with
    ⟨_, ht⟩ | ⟨_, _, ht⟩ | ⟨_, ht⟩ | ⟨_, ht⟩ | ⟨hr, _⟩
  · exact ⟨_, ht⟩
  · exact ⟨_, ht⟩
  · exact ⟨_, ht⟩
  · exact ⟨_, ht⟩
  · exact absurd hr (Config.lookup_not_reserved h e.isExtended e.code)

/-! ## The step -/

/-- STEP completes, hands out the decoder's event, and leaves the decoder's elements as the decoder left them (R170, R171, R180). -/
theorem execStep_of_wf {s : State} (h : s.config.wf = true) (l c d : Bool) :
    ∃ b, execStep l c d s = .next (s.finish b (Result.ofEvent (pollLink c d s.block).2)) ∧ SameDecoder b (pollLink c d s.block).1 := by
  rcases execStep_cases l c d s with ⟨hp, hx⟩ | ⟨e, t, hp, hd, hx⟩ | ⟨e, _, hd, _⟩
  · rw [hp]
    exact ⟨_, hx, settle_decoder _ _ _⟩
  · rw [hp]
    exact ⟨_, hx, (settle_decoder _ _ _).trans (trackIdentity_decoder hd)⟩
  · obtain ⟨t, ht⟩ := dispatch_isSome h e (pollLink c d s.block).1
    rw [ht] at hd; cases hd

/-- A step with rst = 1 of a well-configured machine (R27). -/
theorem step_of_rst {s : State} (h : s.config.wf = true) (hr : StepWord.rst (nextWord s) = true) :
    step s = .next ((consume s).finish (Block.reset s.config.prevClkReset) .none) := by
  rw [step_of_wf h]
  rcases runStep_cases s with ⟨_, hx⟩ | ⟨hn, _⟩
  · exact hx
  · rw [hr] at hn; cases hn

/-- A step with rst = 0 of a well-configured machine is a STEP on the levels of its input word (R170). -/
theorem step_of_not_rst {s : State} (h : s.config.wf = true) (hr : StepWord.rst (nextWord s) = false) :
    step s = execStep (StepWord.clr (nextWord s)) (StepWord.clock (nextWord s)) (StepWord.data (nextWord s)) (consume s) := by
  rw [step_of_wf h]
  rcases runStep_cases s with ⟨hn, _⟩ | ⟨_, hx⟩
  · rw [hr] at hn; cases hn
  · exact hx

/-- A step of a well-configured machine changes the block and the result, and takes one input (R52, R180). -/
theorem step_completes {s : State} (h : s.config.wf = true) : ∃ b r, step s = .next ((consume s).finish b r) := by
  cases hr : StepWord.rst (nextWord s) with
  | true => exact ⟨_, _, step_of_rst h hr⟩
  | false =>
    obtain ⟨b, hx, _⟩ := execStep_of_wf (s := consume s) h (StepWord.clr (nextWord s)) (StepWord.clock (nextWord s)) (StepWord.data (nextWord s))
    exact ⟨b, _, (step_of_not_rst h hr).trans hx⟩

/-- Settles O6: STEP refuses only a reserved identity, and no well-formed configuration holds one. -/
theorem stepAnswersNextExactlyOnWellFormedConfig : Obligations.StepAnswersNextExactlyOnWellFormedConfig := by
  intro s
  refine ⟨fun h => ?_, step_of_not_wf⟩
  obtain ⟨b, r, hx⟩ := step_completes h
  exact ⟨_, hx, rfl, rfl⟩

end Machine

end Sys2Proof

/-! PROOF. The decoder's next elements and its event are functions of the decoder's elements and the input (R1, R193). -/

namespace Sys2Proof.Machine

/-! ## `poll_link`, an equation per selector (R92) -/

section Selectors

variable {c : Bool} (d : Bool) {b : Block}

theorem pollLink_noEdge (hf : fallingEdge b.previousClock c = false) : pollLink c d b = (noEdge c b, none) := by
  unfold pollLink
  rw [hf, if_neg (by decide)]

theorem pollLink_start (hf : fallingEdge b.previousClock c = true) (hi : b.bitIndex = 0) : pollLink c d b = (startBit b, none) := by
  unfold pollLink
  rw [if_pos hf, if_pos hi]

theorem pollLink_data (hf : fallingEdge b.previousClock c = true) (h1 : 1 ≤ b.bitIndex.val) (h8 : b.bitIndex.val ≤ 8) :
    pollLink c d b = (dataBit b.bitIndex.val d b, none) := by
  have h0 : b.bitIndex ≠ 0 := fun h => by rw [h] at h1; cases h1
  unfold pollLink
  rw [if_pos hf, if_neg h0, if_pos h8]

theorem pollLink_parity (hf : fallingEdge b.previousClock c = true) (hi : b.bitIndex = 9) : pollLink c d b = (parityBit b, none) := by
  unfold pollLink
  rw [if_pos hf, hi, if_neg (by decide), if_neg (by decide), if_pos rfl]

theorem pollLink_stop (hf : fallingEdge b.previousClock c = true) (hi : b.bitIndex = 10) : pollLink c d b = stopBit b := by
  unfold pollLink
  rw [if_pos hf, hi, if_neg (by decide), if_neg (by decide), if_neg (by decide)]

end Selectors

/-! ## Putting in another Keyboard State -/

/-- The decoder's elements of `b` with the Keyboard State of `k`. -/
def Block.withKeyboard (b k : Block) : Block := { b with modifiers := k.modifiers, keys := k.keys, changed := k.changed }

theorem Block.withKeyboard_decoder (b k : Block) : SameDecoder b (b.withKeyboard k) := ⟨rfl, rfl, rfl, rfl, rfl⟩

/-- A block is given by its decoder's elements and its own Keyboard State. -/
theorem eq_withKeyboard {a b : Block} (h : SameDecoder a b) : b = a.withKeyboard b := by
  obtain ⟨hi, hv, hp, hb, he⟩ := h
  rw [Block.withKeyboard, hi, hv, hp, hb, he]

/-- Putting in another Keyboard State commutes with a frame-byte operation and leaves its event. -/
theorem frameByte_withKeyboard (v : Byte) (b k : Block) :
    frameByte v (b.withKeyboard k) = ((frameByte v b).1.withKeyboard k, (frameByte v b).2) := by
  by_cases hb : v = breakPrefix
  · simp only [frameByte, if_pos hb]
    rfl
  · by_cases he : v = extPrefix
    · simp only [frameByte, if_neg hb, if_pos he]
      rfl
    · simp only [frameByte, if_neg hb, if_neg he]
      rfl

theorem stopBit_withKeyboard (b k : Block) : stopBit (b.withKeyboard k) = ((stopBit b).1.withKeyboard k, (stopBit b).2) :=
  frameByte_withKeyboard b.byteValue { b with bitIndex := 0, byteValue := 0x00#8, previousClock := false } k

/-- Putting in another Keyboard State commutes with `poll_link` and leaves its event. -/
theorem pollLink_withKeyboard (c d : Bool) (b k : Block) :
    pollLink c d (b.withKeyboard k) = ((pollLink c d b).1.withKeyboard k, (pollLink c d b).2) := by
  rcases pollLink_cases c d b with ⟨hf, h⟩ | ⟨hf, ⟨hi, h⟩ | ⟨h1, h8, h⟩ | ⟨hi, h⟩ | ⟨hi, h⟩⟩ <;> rw [h]
  · exact pollLink_noEdge d (b := b.withKeyboard k) hf
  · exact pollLink_start d (b := b.withKeyboard k) hf hi
  · exact pollLink_data d (b := b.withKeyboard k) hf h1 h8
  · exact pollLink_parity d (b := b.withKeyboard k) hf hi
  · exact (pollLink_stop d (b := b.withKeyboard k) hf hi).trans (stopBit_withKeyboard b k)

/-- `poll_link` on two blocks with the same decoder elements: the same event, and the same decoder elements again. -/
theorem pollLink_congr {b b' : Block} (h : SameDecoder b b') (c d : Bool) :
    (pollLink c d b).2 = (pollLink c d b').2 ∧ SameDecoder (pollLink c d b).1 (pollLink c d b').1 := by
  rw [eq_withKeyboard h, pollLink_withKeyboard]
  exact ⟨rfl, Block.withKeyboard_decoder _ _⟩

/-- STEP of two well-configured machines with the same decoder elements, run on the same levels. -/
theorem execStep_congr_decoder {s s' : State} (hs : s.config.wf = true) (hs' : s'.config.wf = true) (h : SameDecoder s.block s'.block)
    (l c d : Bool) :
    ∃ t t', execStep l c d s = .next t ∧ execStep l c d s' = .next t' ∧ SameDecoder t.block t'.block ∧ t.result = t'.result := by
  obtain ⟨b, hx, hb⟩ := execStep_of_wf hs l c d
  obtain ⟨b', hx', hb'⟩ := execStep_of_wf hs' l c d
  obtain ⟨hevent, hpoll⟩ := pollLink_congr h c d
  exact ⟨_, _, hx, hx', (hb.trans hpoll).trans hb'.symm, congrArg Result.ofEvent hevent⟩

/-- Settles O14: a reset step writes the same constants in both machines, and any other runs the decoder on the same elements, after which the
tracker leaves them. -/
theorem decoderIgnoresTablesAndKeys : Obligations.DecoderIgnoresTablesAndKeys := by
  intro s s' w ws ws' hs hs' hclk hw hw' h
  have hn : nextWord s = w := nextWord_cons s hw
  have hn' : nextWord s' = w := nextWord_cons s' hw'
  cases hr : StepWord.rst w with
  | true =>
    refine ⟨_, _, step_of_rst hs (hn ▸ hr), step_of_rst hs' (hn' ▸ hr), ?_, rfl⟩
    rw [hclk]
    exact SameDecoder.refl _
  | false =>
    rw [step_of_not_rst hs (hn ▸ hr), step_of_not_rst hs' (hn' ▸ hr), hn, hn']
    exact execStep_congr_decoder (s := consume s) (s' := consume s') hs hs' h _ _ _

end Sys2Proof.Machine

/-! PROOF. What a completed step leaves, and the reset state (R27, R170, R172). -/

namespace Sys2Proof.Machine

/-- Everything a completed step of a machine leaves (R27, R170): the reset block, the block the decoder left, or the block the tracker made of it. -/
theorem step_next_cases {s t : State} (h : step s = .next t) :
    s.config.wf = true ∧
    (t = (consume s).finish (Block.reset s.config.prevClkReset) .none ∨
     ∃ l c d : Bool,
       t = (consume s).finish (settle l (pollLink c d s.block).1 (pollLink c d s.block).1) .none ∨
       ∃ e tracked, dispatch s.config e (pollLink c d s.block).1 = some tracked ∧
         t = (consume s).finish (settle l (pollLink c d s.block).1 tracked) (.event e)) := by
  cases hcfg : s.config.wf with
  | false => rw [step_of_not_wf hcfg] at h; cases h
  | true =>
    refine ⟨rfl, ?_⟩
    rw [step_of_wf hcfg] at h
    rcases runStep_cases s with ⟨_, hx⟩ | ⟨_, hx⟩
    · rw [hx] at h; cases h
      exact .inl rfl
    · rw [hx] at h
      refine .inr ⟨StepWord.clr (nextWord s), StepWord.clock (nextWord s), StepWord.data (nextWord s), ?_⟩
      rcases execStep_cases (StepWord.clr (nextWord s)) (StepWord.clock (nextWord s)) (StepWord.data (nextWord s)) (consume s) with
        ⟨_, hy⟩ | ⟨e, tracked, _, hd, hy⟩ | ⟨_, _, _, hy⟩ <;> rw [hy] at h <;> cases h
      · exact .inl rfl
      · exact .inr ⟨e, tracked, hd, rfl⟩

/-- Settles O9: a step with rst = 1 is INIT_LINK and INIT_STATE, which together write every element. -/
theorem resetStepGivesTheResetState : Obligations.ResetStepGivesTheResetState := by
  intro s w ws hs hw hr
  have hn : nextWord s = w := nextWord_cons s hw
  rw [step_of_rst hs (hn ▸ hr), State.finish, consume, hw]
  rfl

end Sys2Proof.Machine

/-! PROOF. The invariants of R19: I2 for the decoder, I3 and I4 for the tracker, and both for the step. -/

namespace Sys2Proof

open Machine

/-! ## I2, the accumulator -/

/-- I2 as one bound: up to the parity bit, `byte_value` has only the data bits received. With no data bit yet the bound is 2^0. -/
theorem accumulatorClear_iff {b : Block} :
    AccumulatorClear b ↔ (b.bitIndex.val ≤ 9 → b.byteValue.toNat < 2 ^ (b.bitIndex.val - 1)) := by
  have hzero : b.byteValue = 0x00#8 ↔ b.byteValue.toNat < 2 ^ 0 := by
    rw [← BitVec.toNat_inj]
    simp
  constructor
  · rintro ⟨hlow, hdata⟩ h9
    by_cases h1 : b.bitIndex.val ≤ 1
    · rw [Nat.sub_eq_zero_of_le h1]
      exact hzero.mp (hlow h1)
    · exact hdata (b.bitIndex.val - 1) (by omega) (by omega) (by omega)
  · intro h
    refine ⟨fun h1 => hzero.mpr ?_, fun k _ h8 hk => ?_⟩
    · have := h (by omega)
      rwa [Nat.sub_eq_zero_of_le h1] at this
    · have := h (by omega)
      rwa [hk, Nat.add_sub_cancel] at this

/-- I2 is about the decoder's elements only. -/
theorem AccumulatorClear.congr {a b : Block} (h : AccumulatorClear b) (hab : SameDecoder a b) : AccumulatorClear a := by
  obtain ⟨hi, hv, _⟩ := hab
  rw [AccumulatorClear, hi, hv]
  exact h

/-- A bit put at position `k` of a value below 2^k leaves it below 2^(k+1). -/
theorem putBit_lt {v : Byte} {k : Nat} (hk : k < 8) (hv : v.toNat < 2 ^ k) (d : Bool) : (putBit v k d).toNat < 2 ^ (k + 1) := by
  refine Nat.lt_pow_two_of_testBit _ fun j hj => ?_
  have hvj : v.toNat.testBit j = false := Nat.testBit_lt_two_pow (Nat.lt_trans hv (Nat.pow_lt_pow_right (by decide) hj))
  rw [BitVec.testBit_toNat, getLsbD_putBit v hk, if_neg (by omega)]
  rwa [BitVec.testBit_toNat] at hvj

theorem dataBit_accumulatorClear {b : Block} (h : AccumulatorClear b) (h1 : 1 ≤ b.bitIndex.val) (h8 : b.bitIndex.val ≤ 8) (d : Bool) :
    AccumulatorClear (dataBit b.bitIndex.val d b) := by
  have hnext : (Fin.ofNat 11 (b.bitIndex.val + 1)).val = b.bitIndex.val - 1 + 1 + 1 := by
    rw [Fin.val_ofNat, Nat.mod_eq_of_lt (by omega)]
    omega
  rw [accumulatorClear_iff, dataBit_bitIndex, dataBit_byteValue, hnext]
  exact fun _ => putBit_lt (by omega) (accumulatorClear_iff.mp h (by omega)) d

/-- What S.STOP leaves of the block: a fresh accumulator and the flags its frame-byte operation leaves (R97). -/
theorem stopBit_block (b : Block) :
    ∃ brk ext, (stopBit b).1 =
      { b with bitIndex := 0, byteValue := 0x00#8, previousClock := false, breakPending := brk, extendedPending := ext } := by
  rw [stopBit]
  rcases frameByte_cases b.byteValue { b with bitIndex := 0, byteValue := 0x00#8, previousClock := false } with
    ⟨_, h⟩ | ⟨_, h⟩ | ⟨_, _, h⟩ <;> rw [h] <;> exact ⟨_, _, rfl⟩

theorem stopBit_accumulatorClear (b : Block) : AccumulatorClear (stopBit b).1 := by
  obtain ⟨_, _, h⟩ := stopBit_block b
  rw [accumulatorClear_iff, h]
  exact fun _ => Nat.one_pos

/-- Every sampler operation keeps I2. -/
theorem pollLink_accumulatorClear {b : Block} (h : AccumulatorClear b) (c d : Bool) : AccumulatorClear (pollLink c d b).1 := by
  rcases pollLink_cases c d b with ⟨_, hp⟩ | ⟨_, ⟨h0, hp⟩ | ⟨h1, h8, hp⟩ | ⟨_, hp⟩ | ⟨_, hp⟩⟩ <;> rw [hp]
  · exact h
  · rw [accumulatorClear_iff, h0] at h
    exact accumulatorClear_iff.mpr fun _ => h (by decide)
  · exact dataBit_accumulatorClear h h1 h8 d
  · exact accumulatorClear_iff.mpr fun h9 => absurd (show 10 ≤ 9 from h9) (by decide)
  · exact stopBit_accumulatorClear b

/-! ## I3 and I4, the key slots -/

theorem KeysDistinct.congr {a b : Block} (h : KeysDistinct b) (hab : a.keys = b.keys) : KeysDistinct a := by
  rw [KeysDistinct, hab]
  exact h

theorem KeysMapped.congr {cfg : Config} {a b : Block} (h : KeysMapped cfg b) (hab : a.keys = b.keys) : KeysMapped cfg a := by
  rw [KeysMapped, hab]
  exact h

/-- An identity is stored only when no slot holds it. -/
theorem ordPress_keysDistinct {b : Block} (h : KeysDistinct b) (id : Byte) : KeysDistinct (ordPress id b) := by
  rcases ordPress_cases id b with ⟨_, hp⟩ | ⟨_, _, hp⟩ | ⟨hnot, e, _, _, hp⟩ <;> rw [hp]
  · exact h
  · exact h
  · intro i j hi hij
    simp only [get_set] at hi hij
    by_cases hie : i = e
    · by_cases hje : j = e
      · rw [hie, hje]
      · rw [if_pos hie, if_neg hje] at hij
        exact absurd hij.symm (hnot j)
    · by_cases hje : j = e
      · rw [if_neg hie, if_pos hje] at hij
        exact absurd hij (hnot i)
      · rw [if_neg hie] at hi
        rw [if_neg hie, if_neg hje] at hij
        exact h i j hi hij

theorem ordRelease_keysDistinct {b : Block} (h : KeysDistinct b) (id : Byte) : KeysDistinct (ordRelease id b) := by
  rcases ordRelease_cases id b with ⟨_, hp⟩ | ⟨m, _, _, hp⟩ <;> rw [hp]
  · exact h
  · intro i j hi hij
    simp only [get_set] at hi hij
    by_cases him : i = m
    · exact absurd (if_pos him) hi
    · rw [if_neg him] at hi hij
      by_cases hjm : j = m
      · rw [if_pos hjm] at hij
        exact absurd hij hi
      · rw [if_neg hjm] at hij
        exact h i j hi hij

theorem ordPress_keysMapped {cfg : Config} {b : Block} (h : KeysMapped cfg b) {id : Byte} (hsent : id ∉ cfg.sentinels)
    (hmapped : MappedIdentity cfg id) : KeysMapped cfg (ordPress id b) := by
  rcases ordPress_cases id b with ⟨_, hp⟩ | ⟨_, _, hp⟩ | ⟨_, e, _, _, hp⟩ <;> rw [hp]
  · exact h
  · exact h
  · intro i
    simp only [get_set]
    split
    · exact ⟨hsent, fun _ => hmapped⟩
    · exact h i

theorem ordRelease_keysMapped {cfg : Config} {b : Block} (hcfg : cfg.wf = true) (h : KeysMapped cfg b) (id : Byte) :
    KeysMapped cfg (ordRelease id b) := by
  rcases ordRelease_cases id b with ⟨_, hp⟩ | ⟨m, _, _, hp⟩ <;> rw [hp]
  · exact h
  · intro i
    simp only [get_set]
    split
    · exact ⟨Config.zero_not_sentinel hcfg, fun hz => absurd rfl hz⟩
    · exact h i

theorem modPress_keys (n : Fin 8) (b : Block) : (modPress n b).keys = b.keys := by
  rcases modPress_cases n b with ⟨_, h⟩ | ⟨_, h⟩ <;> rw [h]

theorem modRelease_keys (n : Fin 8) (b : Block) : (modRelease n b).keys = b.keys := by
  rcases modRelease_cases n b with ⟨_, h⟩ | ⟨_, h⟩ <;> rw [h]

/-- Everything an event can do to the slots (R121): nothing, or the press or release of a mapped identity that is no sentinel. -/
theorem dispatch_keys {cfg : Config} (hcfg : cfg.wf = true) {e : Event} {b t : Block} (h : dispatch cfg e b = some t) :
    t.keys = b.keys ∨
    ∃ id, id ∉ cfg.sentinels ∧ MappedIdentity cfg id ∧ t = if e.isBreak then ordRelease id b else ordPress id b := by
  rcases trackIdentity_cases cfg e.isBreak (cfg.lookup e.isExtended e.code) b with
    ⟨_, ht⟩ | ⟨n, _, ht⟩ | ⟨_, ht⟩ | ⟨hord, ht⟩ | ⟨_, ht⟩ <;> rw [dispatch, ht] at h <;> cases h
  · exact .inl rfl
  · refine .inl ?_
    split
    · exact modRelease_keys n b
    · exact modPress_keys n b
  · obtain ⟨_, hsent, _⟩ := Config.caps_identity hcfg
    exact .inr ⟨cfg.idCapsLock, hsent, .inl rfl, rfl⟩
  · obtain ⟨_, hsent, _⟩ := Config.classify_ordinary hord
    exact .inr ⟨_, hsent, .inr ⟨hord, e.isExtended, e.code, rfl⟩, rfl⟩

/-- Every event keeps I3 and I4. -/
theorem dispatch_keysDistinct_keysMapped {cfg : Config} (hcfg : cfg.wf = true) {e : Event} {b t : Block}
    (hd : KeysDistinct b) (hm : KeysMapped cfg b) (h : dispatch cfg e b = some t) : KeysDistinct t ∧ KeysMapped cfg t := by
  rcases dispatch_keys hcfg h with hk | ⟨id, hsent, hmapped, rfl⟩
  · exact ⟨hd.congr hk, hm.congr hk⟩
  · split
    · exact ⟨ordRelease_keysDistinct hd id, ordRelease_keysMapped hcfg hm id⟩
    · exact ⟨ordPress_keysDistinct hd id, ordPress_keysMapped hm hsent hmapped⟩

/-! ## The reset state and the step -/

/-- A well-configured machine whose block is the reset block has the invariants. -/
theorem Inv.of_reset {s : State} {p : Bool} (hcfg : s.config.wf = true) (hb : s.block = Block.reset p) : Inv s := by
  have hempty : ∀ i : Fin 6, (Block.reset p).keys[i] = 0x00#8 := by
    show ∀ i : Fin 6, (#v[0x00#8, 0x00#8, 0x00#8, 0x00#8, 0x00#8, 0x00#8] : Vector Byte 6)[i] = 0x00#8
    decide
  refine ⟨hcfg, ?_, ?_, ?_⟩ <;> rw [hb]
  · exact accumulatorClear_iff.mpr fun _ => Nat.one_pos
  · exact fun i _ hi => absurd (hempty i) hi
  · intro i
    rw [hempty i]
    exact ⟨Config.zero_not_sentinel hcfg, fun hz => absurd rfl hz⟩

/-- Settles O19: the default parameters are well-formed, and the reset block has an empty accumulator and six empty slots. -/
theorem resetHasTheInvariants : Obligations.ResetHasTheInvariants :=
  Inv.of_reset Config.standard_wf rfl

/-- The decoder keeps the invariants. -/
theorem Inv.after_pollLink {s : State} (h : Inv s) (c d : Bool) :
    AccumulatorClear (pollLink c d s.block).1 ∧ KeysDistinct (pollLink c d s.block).1 ∧ KeysMapped s.config (pollLink c d s.block).1 := by
  obtain ⟨_, hacc, hdist, hmap⟩ := h
  obtain ⟨_, hkeys, _⟩ := pollLink_keyboard c d s.block
  exact ⟨pollLink_accumulatorClear hacc c d, hdist.congr hkeys, hmap.congr hkeys⟩

/-- Settles O18: the decoder keeps I2 and leaves the slots, the tracker keeps I3 and I4 and leaves the accumulator, and the resolution of `changed`
touches neither. -/
theorem everyStepKeepsTheInvariants : Obligations.EveryStepKeepsTheInvariants := by
  intro s t h hstep
  obtain ⟨hcfg, rfl | ⟨l, c, d, rfl | ⟨e, tracked, hd, rfl⟩⟩⟩ := step_next_cases hstep
  · exact Inv.of_reset hcfg rfl
  · obtain ⟨hacc, hdist, hmap⟩ := h.after_pollLink c d
    exact ⟨hcfg, hacc, hdist, hmap⟩
  · obtain ⟨hacc, hdist, hmap⟩ := h.after_pollLink c d
    obtain ⟨hdist', hmap'⟩ := dispatch_keysDistinct_keysMapped hcfg hdist hmap hd
    exact ⟨hcfg, hacc.congr ((settle_decoder _ _ _).trans (trackIdentity_decoder hd)), hdist', hmap'⟩

end Sys2Proof

/-! PROOF. The event of a step (R25, R171), and the flag `changed` over a run (R19 I5). -/

namespace Sys2Proof.Machine

/-! ## The event of a step -/

/-- The event of a step with the input `w`: the one the decoder hands over, none in a reset step (R25, R171). -/
def Block.stepEvent (w : StepWord) (b : Block) : Option Event :=
  if StepWord.rst w then none else (pollLink (StepWord.clock w) (StepWord.data w) b).2

/-- The step's sampler operation is S.STOP with the frame-byte operation F.TERM (R25, R92, R112). -/
def Block.atTerminal (w : StepWord) (b : Block) : Prop :=
  StepWord.rst w = false ∧ b.previousClock = true ∧ StepWord.clock w = false ∧ b.bitIndex = 10 ∧ b.byteValue ≠ breakPrefix ∧ b.byteValue ≠ extPrefix

theorem eventPorts_of_some {w : StepWord} {b : Block} {e : Event} (h : b.stepEvent w = some e) :
    b.eventPorts w = ⟨true, e.code, e.isBreak, e.isExtended⟩ := by
  rw [Block.stepEvent] at h
  rw [Block.eventPorts, h]

theorem eventPorts_of_none {w : StepWord} {b : Block} (h : b.stepEvent w = none) : b.eventPorts w = ⟨false, 0x00#8, false, false⟩ := by
  rw [Block.stepEvent] at h
  rw [Block.eventPorts, h]

/-- A step of a well-configured machine hands out the event of its input word (R171). -/
theorem step_result {s : State} (h : s.config.wf = true) :
    ∃ t, step s = .next t ∧ t.result = Result.ofEvent (s.block.stepEvent (nextWord s)) := by
  cases hr : StepWord.rst (nextWord s) with
  | true =>
    rw [Block.stepEvent, if_pos hr]
    exact ⟨_, step_of_rst h hr, rfl⟩
  | false =>
    obtain ⟨b, hx, _⟩ := execStep_of_wf (s := consume s) h (StepWord.clr (nextWord s)) (StepWord.clock (nextWord s)) (StepWord.data (nextWord s))
    rw [Block.stepEvent, if_neg (by simp [hr])]
    exact ⟨_, (step_of_not_rst h hr).trans hx, rfl⟩

theorem fallingEdge_iff {p c : Bool} : fallingEdge p c = true ↔ p = true ∧ c = false := by simp [fallingEdge]

/-- S.STOP on a terminal scancode emits it with the flags from before the clearing (R97, R112). -/
theorem stopBit_event_of_terminal {b : Block} (hb : b.byteValue ≠ breakPrefix) (he : b.byteValue ≠ extPrefix) :
    (stopBit b).2 = some ⟨b.byteValue, b.breakPending, b.extendedPending⟩ := by
  rw [stopBit, frameByte, if_neg hb, if_neg he]
  rfl

/-- S.STOP on 0xF0 or 0xE0 emits nothing (R110, R111). -/
theorem stopBit_event_of_not_terminal {b : Block} (h : b.byteValue = breakPrefix ∨ b.byteValue = extPrefix) : (stopBit b).2 = none := by
  rw [stopBit]
  rcases h with h | h <;> rw [h] <;> rfl

theorem stepEvent_of_atTerminal {w : StepWord} {b : Block} (h : b.atTerminal w) :
    b.stepEvent w = some ⟨b.byteValue, b.breakPending, b.extendedPending⟩ := by
  obtain ⟨hr, hp, hc, hi, hb, he⟩ := h
  rw [Block.stepEvent, if_neg (by simp [hr]), pollLink_stop _ (fallingEdge_iff.mpr ⟨hp, hc⟩) hi]
  exact stopBit_event_of_terminal hb he

/-- No other sampler operation emits an event, and S.STOP emits none on 0xF0 or 0xE0. -/
theorem stepEvent_of_not_atTerminal {w : StepWord} {b : Block} (h : ¬ b.atTerminal w) : b.stepEvent w = none := by
  rw [Block.stepEvent]
  split
  · rfl
  · next hr =>
    rcases pollLink_cases (StepWord.clock w) (StepWord.data w) b with ⟨_, hx⟩ | ⟨hf, ⟨_, hx⟩ | ⟨_, _, hx⟩ | ⟨_, hx⟩ | ⟨hi, hx⟩⟩
    · rw [hx]
    · rw [hx]
    · rw [hx]
    · rw [hx]
    · obtain ⟨hp, hc⟩ := fallingEdge_iff.mp hf
      rw [hx]
      refine stopBit_event_of_not_terminal (Classical.byContradiction fun hno => h ?_)
      obtain ⟨hb, he⟩ := not_or.mp hno
      exact ⟨by simpa using hr, hp, hc, hi, hb, he⟩

/-- Settles O15: the ports and the step's result both show the step's event, which is there exactly at a terminal scancode. -/
theorem eventPortsShowTheTerminalScancode : Obligations.EventPortsShowTheTerminalScancode := by
  intro s w ws hs hw
  obtain ⟨t, hstep, hresult⟩ := step_result hs
  rw [nextWord_cons s hw] at hresult
  refine ⟨fun (h : s.block.atTerminal w) => ?_, fun (h : ¬ s.block.atTerminal w) => ?_⟩
  · have hevent := stepEvent_of_atTerminal h
    exact ⟨eventPorts_of_some hevent, t, hstep, by rw [hresult, hevent]; rfl⟩
  · have hevent := stepEvent_of_not_atTerminal h
    exact ⟨eventPorts_of_none hevent, t, hstep, by rw [hresult, hevent]; rfl⟩

/-! ## `changed` over a run -/

theorem mutated_iff {a b : Block} : mutated a b = true ↔ b.modifiers ≠ a.modifiers ∨ b.keys ≠ a.keys := by
  simp [mutated, ne_comm]

/-- Without a mutation `changed` does not rise (R172). -/
theorem mutation_of_resolveChanged {mutation clr : Bool} (h : resolveChanged mutation clr false = true) : mutation = true := by
  cases mutation with
  | true => rfl
  | false => cases clr <;> cases h

/-- Where the resolution of `changed` after the decoder raises it, the tracker mutated the Keyboard State (R170, R172). -/
theorem mutation_of_settle_changed {l c d : Bool} {b tracked : Block} (h0 : b.changed = false)
    (h1 : (settle l (pollLink c d b).1 tracked).changed = true) :
    tracked.modifiers ≠ b.modifiers ∨ tracked.keys ≠ b.keys := by
  obtain ⟨hmod, hkeys, hchanged⟩ := pollLink_keyboard c d b
  rw [settle_changed, hchanged, h0] at h1
  have := mutated_iff.mp (mutation_of_resolveChanged h1)
  rwa [hmod, hkeys] at this

/-- A step that raises `changed` mutated `modifiers` or `keys` (R18, R49). -/
theorem mutation_of_step_raises_changed {s t : State} (h : step s = .next t) (h0 : s.block.changed = false) (h1 : t.block.changed = true) :
    t.block.modifiers ≠ s.block.modifiers ∨ t.block.keys ≠ s.block.keys := by
  obtain ⟨_, rfl | ⟨l, c, d, rfl | ⟨e, tracked, _, rfl⟩⟩⟩ := step_next_cases h
  · cases h1
  · exact mutation_of_settle_changed h0 h1
  · exact mutation_of_settle_changed h0 h1

/-- A completed run of `k + 1` steps is a completed step and a completed run of `k` steps. -/
theorem run_succ_eq_next (M : Host.Core) {k : Nat} {s t : M.State} :
    M.run (k + 1) s = .next t ↔ ∃ s', M.step s = .next s' ∧ M.run k s' = .next t := by
  rw [Host.Core.run]
  cases M.step s <;> simp

/-- Settles O20, by induction on the length of the run: the first step raises `changed` itself or leaves it 0 for the rest of the run. -/
theorem changedImpliesAMutationInTheRun : Obligations.ChangedImpliesAMutationInTheRun := by
  intro n
  induction n with
  | zero =>
    intro s t h0 hrun h1
    cases hrun
    rw [h0] at h1
    cases h1
  | succ n ih =>
    intro s t h0 hrun h1
    obtain ⟨s', hstep, hrest⟩ := (run_succ_eq_next core).mp hrun
    cases hc : s'.block.changed with
    | true => exact ⟨0, n.succ_pos, s, s', rfl, hstep, mutation_of_step_raises_changed hstep h0 hc⟩
    | false =>
      obtain ⟨k, hk, a, b, hrun', hmutation⟩ := ih s' t hc hrest h1
      exact ⟨k + 1, Nat.succ_lt_succ hk, a, b, (run_succ_eq_next core).mpr ⟨s', hstep, hrun'⟩, hmutation⟩

end Sys2Proof.Machine

/-! PROOF. What each operation can write (R20). -/

namespace Sys2Proof.Machine

/-- `i` is one of the eight S.DATA rows with the data level `d` (R95). -/
def IsDataRow (d : Bool) (i : Instr) : Prop :=
  i = .sData1 d ∨ i = .sData2 d ∨ i = .sData3 d ∨ i = .sData4 d ∨ i = .sData5 d ∨ i = .sData6 d ∨ i = .sData7 d ∨ i = .sData8 d

theorem IsDataRow.format {d : Bool} {i : Instr} (h : IsDataRow d i) : (encode i).format = .sampler := by
  rcases h with rfl | rfl | rfl | rfl | rfl | rfl | rfl | rfl <;> rfl

/-- `i` is an operation that writes the slots: ORD.PRESS, ORD.RELEASE, CAPS.PRESS, CAPS.RELEASE (R133 to R136). -/
def IsKeyRow (i : Instr) : Prop := (∃ id, i = .ordPress id ∨ i = .ordRelease id) ∨ i = .capsPress ∨ i = .capsRelease

/-- What an operation other than STEP can make of the block `b`: which elements it writes, read along the rows of the access table (R20). -/
inductive Writes (b : Block) : Instr → Block → Prop where
  | nothing {i : Instr} : Writes b i b
  | clock {i : Instr} (p : Bool) (hi : (encode i).format = .sampler) : Writes b i { b with previousClock := p }
  | start (d : Bool) : Writes b (.sStart d) { b with bitIndex := 1, previousClock := false }
  | data {i : Instr} {d : Bool} (v : Byte) (k : Fin 11) (hi : IsDataRow d i) :
      Writes b i { b with byteValue := v, bitIndex := k, previousClock := false }
  | parity (d : Bool) : Writes b (.sParity d) { b with bitIndex := 10, previousClock := false }
  | stop (d brk ext : Bool) :
      Writes b (.sStop d)
        { b with bitIndex := 0, byteValue := 0x00#8, previousClock := false, breakPending := brk, extendedPending := ext }
  | breakFlag : Writes b .fBreak { b with breakPending := true }
  | extFlag : Writes b .fExt { b with extendedPending := true }
  | flags (v : Byte) : Writes b (.fTerm v) { b with breakPending := false, extendedPending := false }
  | modifiers {i : Instr} (v : Byte) (hi : ∃ n, i = .modPress n ∨ i = .modRelease n) : Writes b i { b with modifiers := v, changed := true }
  | keys {i : Instr} (k : Vector Byte 6) (hi : IsKeyRow i) : Writes b i { b with keys := k, changed := true }
  | clear (c d : Bool) : Writes b (.clearChanged c d) { b with changed := false }
  | decoder (l c d p : Bool) : Writes b (.initLink l c d) (initDecoder p b)
  | keyboard (l c d : Bool) : Writes b (.initState l c d) (initKeyboard b)

/-! ## Each operation writes what its row says -/

theorem stopBit_writes (d : Bool) (b : Block) : Writes b (.sStop d) (stopBit b).1 := by
  obtain ⟨brk, ext, h⟩ := stopBit_block b
  rw [h]
  exact .stop d brk ext

theorem modPress_writes (n : Fin 8) (b : Block) : Writes b (.modPress n) (modPress n b) := by
  rcases modPress_cases n b with ⟨_, h⟩ | ⟨_, h⟩ <;> rw [h]
  · exact .nothing
  · exact .modifiers _ ⟨n, .inl rfl⟩

theorem modRelease_writes (n : Fin 8) (b : Block) : Writes b (.modRelease n) (modRelease n b) := by
  rcases modRelease_cases n b with ⟨_, h⟩ | ⟨_, h⟩ <;> rw [h]
  · exact .nothing
  · exact .modifiers _ ⟨n, .inr rfl⟩

theorem ordPress_writes {i : Instr} (hi : IsKeyRow i) (id : Byte) (b : Block) : Writes b i (ordPress id b) := by
  rcases ordPress_cases id b with ⟨_, h⟩ | ⟨_, _, h⟩ | ⟨_, _, _, _, h⟩ <;> rw [h]
  · exact .nothing
  · exact .nothing
  · exact .keys _ hi

theorem ordRelease_writes {i : Instr} (hi : IsKeyRow i) (id : Byte) (b : Block) : Writes b i (ordRelease id b) := by
  rcases ordRelease_cases id b with ⟨_, h⟩ | ⟨_, _, _, h⟩ <;> rw [h]
  · exact .nothing
  · exact .keys _ hi

theorem Writes.of_exec {i : Instr} {s t : State} {b : Block} {r : Result} (h : exec i s = .next t) (hx : exec i s = .next (s.finish b r))
    (hb : Writes s.block i b) : Writes s.block i t.block := by
  rw [hx] at h
  cases h
  exact hb

/-- Every operation but STEP writes what its row says; the rows not named are reads and change nothing. -/
theorem exec_writes {i : Instr} {s t : State} (h : exec i s = .next t) (hstep : ∀ l c d, i ≠ .step l c d) : Writes s.block i t.block := by
  cases i with
  | sNoedgeLow => exact .of_exec h rfl (.clock _ rfl)
  | sNoedgeRising => exact .of_exec h rfl (.clock _ rfl)
  | sNoedgeHigh => exact .of_exec h rfl (.clock _ rfl)
  | sStart => exact .of_exec h rfl (.start _)
  | sData1 => exact .of_exec h rfl (.data _ _ (.inl rfl))
  | sData2 => exact .of_exec h rfl (.data _ _ (.inr (.inl rfl)))
  | sData3 => exact .of_exec h rfl (.data _ _ (.inr (.inr (.inl rfl))))
  | sData4 => exact .of_exec h rfl (.data _ _ (.inr (.inr (.inr (.inl rfl)))))
  | sData5 => exact .of_exec h rfl (.data _ _ (.inr (.inr (.inr (.inr (.inl rfl))))))
  | sData6 => exact .of_exec h rfl (.data _ _ (.inr (.inr (.inr (.inr (.inr (.inl rfl)))))))
  | sData7 => exact .of_exec h rfl (.data _ _ (.inr (.inr (.inr (.inr (.inr (.inr (.inl rfl))))))))
  | sData8 => exact .of_exec h rfl (.data _ _ (.inr (.inr (.inr (.inr (.inr (.inr (.inr rfl))))))))
  | sParity => exact .of_exec h rfl (.parity _)
  | sStop => exact .of_exec h rfl (stopBit_writes _ _)
  | reservedBitIndex11 => cases h
  | reservedBitIndex12 => cases h
  | reservedBitIndex13 => cases h
  | reservedBitIndex14 => cases h
  | reservedBitIndex15 => cases h
  | fBreak => exact .of_exec h rfl .breakFlag
  | fExt => exact .of_exec h rfl .extFlag
  | fTerm => exact .of_exec h rfl (.flags _)
  | modPress => exact .of_exec h rfl (modPress_writes _ _)
  | modRelease => exact .of_exec h rfl (modRelease_writes _ _)
  | capsPress => exact .of_exec h rfl (ordPress_writes (.inr (.inl rfl)) _ _)
  | capsRelease => exact .of_exec h rfl (ordRelease_writes (.inr (.inr rfl)) _ _)
  | ordPress id => exact .of_exec h rfl (ordPress_writes (.inl ⟨id, .inl rfl⟩) _ _)
  | ordRelease id => exact .of_exec h rfl (ordRelease_writes (.inl ⟨id, .inr rfl⟩) _ _)
  | reservedIdent => cases h
  | step l c d => exact absurd rfl (hstep l c d)
  | clearChanged => exact .of_exec h rfl (.clear _ _)
  | initLink => exact .of_exec h rfl (.decoder _ _ _ _)
  | initState => exact .of_exec h rfl (.keyboard _ _ _)
  | _ => exact .of_exec h rfl .nothing

/-! ## The writers of each element -/

section Writers

variable {b b' : Block} {i : Instr}

theorem Writes.bitIndex_writer (h : Writes b i b') (hne : b'.bitIndex ≠ b.bitIndex) :
    (∃ d, i = .sStart d ∨ IsDataRow d i ∨ i = .sParity d ∨ i = .sStop d) ∨ ∃ l c d, i = .initLink l c d := by
  cases h with
  | start d => exact .inl ⟨d, .inl rfl⟩
  | data _ _ hi => exact .inl ⟨_, .inr (.inl hi)⟩
  | parity d => exact .inl ⟨d, .inr (.inr (.inl rfl))⟩
  | stop d => exact .inl ⟨d, .inr (.inr (.inr rfl))⟩
  | decoder l c d => exact .inr ⟨l, c, d, rfl⟩
  | _ => exact absurd rfl hne

theorem Writes.byteValue_writer (h : Writes b i b') (hne : b'.byteValue ≠ b.byteValue) :
    (∃ d, IsDataRow d i ∨ i = .sStop d) ∨ ∃ l c d, i = .initLink l c d := by
  cases h with
  | data _ _ hi => exact .inl ⟨_, .inl hi⟩
  | stop d => exact .inl ⟨d, .inr rfl⟩
  | decoder l c d => exact .inr ⟨l, c, d, rfl⟩
  | _ => exact absurd rfl hne

theorem Writes.previousClock_writer (h : Writes b i b') (hne : b'.previousClock ≠ b.previousClock) :
    (encode i).format = .sampler ∨ ∃ l c d, i = .initLink l c d := by
  cases h with
  | clock _ hi => exact .inl hi
  | start => exact .inl rfl
  | data _ _ hi => exact .inl hi.format
  | parity => exact .inl rfl
  | stop => exact .inl rfl
  | decoder l c d => exact .inr ⟨l, c, d, rfl⟩
  | _ => exact absurd rfl hne

theorem Writes.breakPending_writer (h : Writes b i b') (hne : b'.breakPending ≠ b.breakPending) :
    i = .fBreak ∨ (∃ v, i = .fTerm v) ∨ (∃ d, i = .sStop d) ∨ ∃ l c d, i = .initLink l c d := by
  cases h with
  | breakFlag => exact .inl rfl
  | flags v => exact .inr (.inl ⟨v, rfl⟩)
  | stop d => exact .inr (.inr (.inl ⟨d, rfl⟩))
  | decoder l c d => exact .inr (.inr (.inr ⟨l, c, d, rfl⟩))
  | _ => exact absurd rfl hne

theorem Writes.extendedPending_writer (h : Writes b i b') (hne : b'.extendedPending ≠ b.extendedPending) :
    i = .fExt ∨ (∃ v, i = .fTerm v) ∨ (∃ d, i = .sStop d) ∨ ∃ l c d, i = .initLink l c d := by
  cases h with
  | extFlag => exact .inl rfl
  | flags v => exact .inr (.inl ⟨v, rfl⟩)
  | stop d => exact .inr (.inr (.inl ⟨d, rfl⟩))
  | decoder l c d => exact .inr (.inr (.inr ⟨l, c, d, rfl⟩))
  | _ => exact absurd rfl hne

theorem Writes.modifiers_writer (h : Writes b i b') (hne : b'.modifiers ≠ b.modifiers) :
    (∃ n, i = .modPress n ∨ i = .modRelease n) ∨ ∃ l c d, i = .initState l c d := by
  cases h with
  | modifiers _ hi => exact .inl hi
  | keyboard l c d => exact .inr ⟨l, c, d, rfl⟩
  | _ => exact absurd rfl hne

theorem Writes.keys_writer (h : Writes b i b') (hne : b'.keys ≠ b.keys) : IsKeyRow i ∨ ∃ l c d, i = .initState l c d := by
  cases h with
  | keys _ hi => exact .inl hi
  | keyboard l c d => exact .inr ⟨l, c, d, rfl⟩
  | _ => exact absurd rfl hne

theorem Writes.changed_writer (h : Writes b i b') (hne : b'.changed ≠ b.changed) :
    (b'.changed = true ∧ ((∃ n, i = .modPress n ∨ i = .modRelease n) ∨ IsKeyRow i)) ∨
    (b'.changed = false ∧ ((∃ c d, i = .clearChanged c d) ∨ ∃ l c d, i = .initState l c d)) := by
  cases h with
  | modifiers _ hi => exact .inl ⟨rfl, .inl hi⟩
  | keys _ hi => exact .inl ⟨rfl, .inr hi⟩
  | clear c d => exact .inr ⟨rfl, .inl ⟨c, d, rfl⟩⟩
  | keyboard l c d => exact .inr ⟨rfl, .inr ⟨l, c, d, rfl⟩⟩
  | _ => exact absurd rfl hne

end Writers

/-- Settles O51: every operation writes what its row says, and each element's writers are read off the rows. -/
theorem writersAreThoseOfTheAccessTable : Obligations.WritersAreThoseOfTheAccessTable := by
  intro i s t h hstep
  have hw := exec_writes h hstep
  refine ⟨fun hne => ?_, fun hne => ?_, hw.previousClock_writer, hw.breakPending_writer, hw.extendedPending_writer, hw.modifiers_writer,
    fun hne => ?_, hw.changed_writer⟩
  · simpa only [IsDataRow, or_assoc] using hw.bitIndex_writer hne
  · simpa only [IsDataRow, or_assoc] using hw.byteValue_writer hne
  · simpa only [IsKeyRow, or_assoc] using hw.keys_writer hne

end Sys2Proof.Machine

/-! PROOF. What a well-formed configuration is (R43), and the class it gives each identity (R42). -/

namespace Sys2Proof

/-! ## The entries of a canonical table -/

theorem Memory.le_of_risingFrom {lo : Nat} {m : Memory} (h : Memory.risingFrom lo m = true) {cell : Host.Cell} (hc : cell ∈ m) :
    lo ≤ cell.1 := by
  induction m generalizing lo with
  | nil => cases hc
  | cons head m ih =>
    simp only [Memory.risingFrom, Bool.and_eq_true, decide_eq_true_eq] at h
    obtain ⟨hlo, hrest⟩ := h
    rcases List.mem_cons.mp hc with rfl | hm
    · exact hlo
    · exact Nat.le_trans (Nat.le_succ_of_le hlo) (ih hrest hm)

/-- An entry is what its address reads as: with strictly rising addresses no earlier entry hides it. -/
theorem Memory.read_of_mem {lo : Nat} {m : Memory} (h : Memory.risingFrom lo m = true) {cell : Host.Cell} (hc : cell ∈ m) :
    Memory.read m cell.1 = cell.2 := by
  induction m generalizing lo with
  | nil => cases hc
  | cons head m ih =>
    simp only [Memory.risingFrom, Bool.and_eq_true, decide_eq_true_eq] at h
    obtain ⟨_, hrest⟩ := h
    rcases List.mem_cons.mp hc with rfl | hm
    · exact if_pos rfl
    · have hlt : head.1 < cell.1 := Memory.le_of_risingFrom hrest hm
      exact (if_neg (Nat.ne_of_lt hlt)).trans (ih hrest hm)

/-- Every entry of a canonical table is the entry at some code. -/
theorem Memory.exists_read_of_mem {m : Memory} (h : Memory.wf m = true) {cell : Host.Cell} (hc : cell ∈ m) :
    ∃ code : Byte, Memory.read m code.toNat = cell.2 := by
  simp only [Memory.wf, Bool.and_eq_true, List.all_eq_true, decide_eq_true_eq] at h
  obtain ⟨hrising, hcells⟩ := h
  obtain ⟨haddr, _⟩ := hcells cell hc
  refine ⟨BitVec.ofNat 8 cell.1, ?_⟩
  rw [BitVec.toNat_ofNat, Nat.mod_eq_of_lt haddr]
  exact Memory.read_of_mem hrising hc

/-! ## W1 to W5, spelled out -/

namespace Config

variable {cfg : Config}

/-- W1 from the look-ups, which reach every entry of both tables. -/
theorem noReservedEntry_of_lookup (hplain : Memory.wf cfg.plainTable = true) (hext : Memory.wf cfg.extTable = true)
    (h : ∀ (e : Bool) (code : Byte), cfg.classify (cfg.lookup e code) ≠ .reserved) : cfg.noReservedEntry = true := by
  simp only [noReservedEntry, List.all_eq_true, bne_iff_ne]
  intro cell hc
  rcases List.mem_append.mp hc with hc | hc
  · obtain ⟨code, hread⟩ := Memory.exists_read_of_mem hplain hc
    exact hread ▸ h false code
  · obtain ⟨code, hread⟩ := Memory.exists_read_of_mem hext hc
    exact hread ▸ h true code

/-- The sentinels of the modifiers in the order of their bits. -/
theorem sentMod_toList : cfg.sentMod.toList = List.ofFn fun n : Fin 8 => cfg.sentMod[n] :=
  List.ext_getElem (by simp) fun i _ _ => by rw [Vector.getElem_toList, List.getElem_ofFn]; rfl

theorem mem_sentinels {id : Byte} : id ∈ cfg.sentinels ↔ (∃ n : Fin 8, cfg.sentMod[n] = id) ∨ id = cfg.sentCaps := by
  rw [sentinels, List.mem_append, List.mem_singleton, sentMod_toList, List.mem_ofFn]

/-- Pairwise distinctness along the list is injectivity in the bit number. -/
theorem sentMod_pairwise_iff : (List.ofFn fun n : Fin 8 => cfg.sentMod[n]).Pairwise (· ≠ ·) ↔
    ∀ n m : Fin 8, cfg.sentMod[n] = cfg.sentMod[m] → n = m := by
  simp only [List.pairwise_iff_getElem, List.getElem_ofFn, List.length_ofFn]
  constructor
  · intro h n m hnm
    rcases Nat.lt_trichotomy n m with hlt | heq | hgt
    · exact absurd hnm (h n m n.isLt m.isLt hlt)
    · exact Fin.ext heq
    · exact absurd hnm.symm (h m n m.isLt n.isLt hgt)
  · intro h i j hi hj hlt hij
    exact Nat.ne_of_lt hlt (congrArg Fin.val (h ⟨i, hi⟩ ⟨j, hj⟩ hij))

theorem sentinels_pairwise_iff : cfg.sentinels.Pairwise (· ≠ ·) ↔
    (∀ n m : Fin 8, cfg.sentMod[n] = cfg.sentMod[m] → n = m) ∧ ∀ n : Fin 8, cfg.sentMod[n] ≠ cfg.sentCaps := by
  rw [sentinels, sentMod_toList, List.pairwise_append, sentMod_pairwise_iff]
  simp only [List.pairwise_singleton, List.mem_singleton, forall_eq, List.mem_ofFn, forall_exists_index,
    forall_apply_eq_imp_iff, true_and]

/-- W2, for the modifier sentinels and for `SENT_CAPS`. -/
theorem sentinelsApart_iff : cfg.sentinelsApart = true ↔
    (∀ n m : Fin 8, cfg.sentMod[n] = cfg.sentMod[m] → n = m) ∧
    (∀ n : Fin 8, cfg.sentMod[n] ≠ cfg.sentCaps ∧ cfg.sentMod[n] ≠ 0x00#8 ∧ cfg.inOrdinaryRange cfg.sentMod[n] = false) ∧
    cfg.sentCaps ≠ 0x00#8 ∧ cfg.inOrdinaryRange cfg.sentCaps = false := by
  simp only [sentinelsApart, Bool.and_eq_true, decide_eq_true_eq, sentinels_pairwise_iff, List.all_eq_true, mem_sentinels,
    or_imp, forall_and, forall_exists_index, forall_apply_eq_imp_iff, forall_eq, Bool.not_eq_true']
  exact ⟨fun ⟨⟨hinj, hcaps⟩, ⟨hn0, hs0⟩, hord, hsr⟩ => ⟨hinj, ⟨hcaps, hn0, hord⟩, hs0, hsr⟩,
    fun ⟨hinj, ⟨hcaps, hn0, hord⟩, hs0, hsr⟩ => ⟨⟨hinj, hcaps⟩, ⟨hn0, hs0⟩, hord, hsr⟩⟩

/-- W3, against each sentinel. -/
theorem capsIdentityOrdinary_iff : cfg.capsIdentityOrdinary = true ↔
    cfg.idCapsLock ≠ 0x00#8 ∧ cfg.idCapsLock ≠ cfg.sentCaps ∧ (∀ n : Fin 8, cfg.idCapsLock ≠ cfg.sentMod[n]) ∧
    cfg.inOrdinaryRange cfg.idCapsLock = true := by
  simp only [capsIdentityOrdinary, Bool.and_eq_true, decide_eq_true_eq, Bool.not_eq_true', List.contains_eq_mem, decide_eq_false_iff_not,
    mem_sentinels, not_or, not_exists, eq_comm (b := cfg.idCapsLock)]
  exact ⟨fun ⟨⟨h0, hmod, hcaps⟩, hord⟩ => ⟨h0, hcaps, hmod, hord⟩, fun ⟨h0, hcaps, hmod, hord⟩ => ⟨⟨h0, hmod, hcaps⟩, hord⟩⟩

/-- W4 as a value of the range test. -/
theorem zeroUnmapped_iff : cfg.zeroUnmapped = true ↔ cfg.inOrdinaryRange 0x00#8 = false := by
  simp [zeroUnmapped]

/-- W5, one clause per entry. -/
theorem fixedEntries_iff : cfg.fixedEntries = true ↔
    cfg.inOrdinaryRange (cfg.lookup false 0x1C#8) = true ∧ cfg.lookup false 0x12#8 = cfg.sentMod[1] := by
  simp [fixedEntries]

/-- Settles O5: `Config.wf` is the canonical form of both tables and W1 to W5, each in the spelling of its lemma; W1 is read off the look-ups. -/
theorem wellFormedConfigIsTheOneOfR43 : Obligations.WellFormedConfigIsTheOneOfR43 := by
  intro cfg
  constructor
  · intro h
    obtain ⟨hplain, hext, _, hsent, hcaps, hzero, hfixed⟩ := wf_parts h
    obtain ⟨hinj, hmod, hs0, hsr⟩ := sentinelsApart_iff.mp hsent
    obtain ⟨hc0, hcs, hcm, hcr⟩ := capsIdentityOrdinary_iff.mp hcaps
    exact ⟨hplain, hext, lookup_not_reserved h, hinj, hmod, hs0, hsr, hc0, hcs, hcm, hcr, zeroUnmapped_iff.mp hzero, fixedEntries_iff.mp hfixed⟩
  · rintro ⟨hplain, hext, hlookup, hinj, hmod, hs0, hsr, hc0, hcs, hcm, hcr, hzero, hfixed⟩
    have h1 := noReservedEntry_of_lookup hplain hext hlookup
    have h2 := sentinelsApart_iff.mpr ⟨hinj, hmod, hs0, hsr⟩
    have h3 := capsIdentityOrdinary_iff.mpr ⟨hc0, hcs, hcm, hcr⟩
    have h4 := zeroUnmapped_iff.mpr hzero
    have h5 := fixedEntries_iff.mpr hfixed
    simp only [wf, hplain, hext, h1, h2, h3, h4, h5, Bool.and_self]

/-! ## The classes of R42 -/

/-- R42: what it is to be in a class. -/
def InClass (cfg : Config) (id : Byte) : IdClass → Prop
  | .unmapped => id = 0x00#8
  | .modifier n => id = cfg.sentMod[n]
  | .capsLock => id = cfg.sentCaps
  | .ordinary => cfg.inOrdinaryRange id = true
  | .reserved => id ≠ 0x00#8 ∧ (∀ n : Fin 8, id ≠ cfg.sentMod[n]) ∧ id ≠ cfg.sentCaps ∧ cfg.inOrdinaryRange id = false

/-- Every identity is in the class it is given. -/
theorem inClass_classify (cfg : Config) (id : Byte) : cfg.InClass id (cfg.classify id) := by
  rcases classify_cases cfg id with ⟨h0, hc⟩ | ⟨_, n, hn, hc⟩ | ⟨_, _, hs, hc⟩ | ⟨_, _, _, ho, hc⟩ | ⟨h0, hn, hs, ho, hc⟩ <;> rw [hc]
  · exact h0
  · exact hn.symm
  · exact hs
  · exact ho
  · exact ⟨h0, fun n => (hn n).symm, hs, ho⟩

theorem modifierOf_of_forall_ne {id : Byte} (h : ∀ n : Fin 8, id ≠ cfg.sentMod[n]) : cfg.modifierOf id = none := by
  cases hm : cfg.modifierOf id with
  | none => rfl
  | some n => exact absurd (modifierOf_some hm).symm (h n)

/-- With the sentinels distinct, `SENT_MOD(n)` is found at n (R72). -/
theorem modifierOf_sentMod (hinj : ∀ n m : Fin 8, cfg.sentMod[n] = cfg.sentMod[m] → n = m) (n : Fin 8) :
    cfg.modifierOf cfg.sentMod[n] = some n := by
  cases hm : cfg.modifierOf cfg.sentMod[n] with
  | none => exact absurd rfl (modifierOf_none hm n)
  | some m => rw [hinj m n (modifierOf_some hm)]

theorem classify_of_modifierOf_some {id : Byte} {n : Fin 8} (h0 : id ≠ 0x00#8) (hm : cfg.modifierOf id = some n) :
    cfg.classify id = .modifier n := by
  rw [classify, if_neg h0, hm]

/-- The classes after the modifiers, in the order of R121. -/
theorem classify_of_no_modifier {id : Byte} (h0 : id ≠ 0x00#8) (hn : ∀ n : Fin 8, id ≠ cfg.sentMod[n]) :
    cfg.classify id = if id = cfg.sentCaps then .capsLock else if cfg.inOrdinaryRange id then .ordinary else .reserved := by
  rw [classify, if_neg h0, modifierOf_of_forall_ne hn]

theorem ne_of_inOrdinaryRange {id x : Byte} (hid : cfg.inOrdinaryRange id = true) (hx : cfg.inOrdinaryRange x = false) : id ≠ x := by
  rintro rfl
  rw [hid] at hx
  cases hx

/-- W2 and W4 keep the classes apart, so an identity in a class is given that class. -/
theorem InClass.classify_eq (h : cfg.wf = true) {id : Byte} {k : IdClass} (hk : cfg.InClass id k) : cfg.classify id = k := by
  obtain ⟨_, _, _, hsent, _, hzero, _⟩ := wf_parts h
  obtain ⟨hinj, hmod, hs0, hsr⟩ := sentinelsApart_iff.mp hsent
  obtain ⟨hcaps, hn0, hord⟩ : (∀ n : Fin 8, cfg.sentMod[n] ≠ cfg.sentCaps) ∧ (∀ n : Fin 8, cfg.sentMod[n] ≠ 0x00#8) ∧
      ∀ n : Fin 8, cfg.inOrdinaryRange cfg.sentMod[n] = false := by simpa only [forall_and] using hmod
  cases k with
  | unmapped => exact (congrArg cfg.classify hk).trans cfg.classify_zero
  | modifier n => exact (congrArg cfg.classify hk).trans (classify_of_modifierOf_some (hn0 n) (modifierOf_sentMod hinj n))
  | capsLock =>
    obtain rfl : id = cfg.sentCaps := hk
    rw [classify_of_no_modifier hs0 fun n => (hcaps n).symm, if_pos rfl]
  | ordinary =>
    have ho : cfg.inOrdinaryRange id = true := hk
    have hne : ∀ {x : Byte}, cfg.inOrdinaryRange x = false → id ≠ x := ne_of_inOrdinaryRange ho
    rw [classify_of_no_modifier (hne (zeroUnmapped_iff.mp hzero)) fun n => hne (hord n), if_neg (hne hsr), if_pos ho]
  | reserved =>
    obtain ⟨h0, hn, hs, ho⟩ := hk
    rw [classify_of_no_modifier h0 hn, if_neg hs, ho, if_neg Bool.false_ne_true]

theorem classify_eq_iff_inClass (h : cfg.wf = true) (id : Byte) (k : IdClass) : cfg.classify id = k ↔ cfg.InClass id k :=
  ⟨fun hk => hk ▸ inClass_classify cfg id, InClass.classify_eq h⟩

/-- Settles O33: the class given is the one the identity is in, read off for each of the five classes. -/
theorem identityClassesAreTheOnesOfR42 : Obligations.IdentityClassesAreTheOnesOfR42 := by
  intro cfg id h
  have hclass := classify_eq_iff_inClass h id
  exact ⟨hclass .unmapped, fun n => hclass (.modifier n), hclass .capsLock, hclass .ordinary, hclass .reserved⟩

end Config

end Sys2Proof

/-! PROOF. What no operation writes (R3, R52). -/

namespace Sys2Proof.Machine

/-- An operation that completes gives the state a block and a result, and nothing else. -/
theorem exec_next_eq_finish {i : Instr} {s t : State} (h : exec i s = .next t) : ∃ b r, t = s.finish b r := by
  cases i with
  | step l c d =>
    change execStep l c d s = .next t at h
    rcases execStep_cases l c d s with ⟨_, hx⟩ | ⟨_, _, _, _, hx⟩ | ⟨_, _, _, hx⟩ <;> rw [hx] at h <;> cases h
    · exact ⟨_, _, rfl⟩
    · exact ⟨_, _, rfl⟩
  | reservedBitIndex11 => cases h
  | reservedBitIndex12 => cases h
  | reservedBitIndex13 => cases h
  | reservedBitIndex14 => cases h
  | reservedBitIndex15 => cases h
  | reservedIdent => cases h
  | _ => cases h; exact ⟨_, _, rfl⟩

/-- Settles O50: an operation ends by `State.finish`, which keeps the parameters and the input queue. -/
theorem noOperationWritesTheParameters : Obligations.NoOperationWritesTheParameters := by
  intro i s t h
  obtain ⟨b, r, rfl⟩ := exec_next_eq_finish h
  exact ⟨State.finish_config s b r, State.finish_stimulus s b r⟩

end Sys2Proof.Machine

/-! PROOF. The operation words (R60, R62, R71, R73): every word of a format is built from its fields, what the built word decodes to, and both
directions of the round trip. -/

namespace Sys2Proof

/-! ## Words from their fields -/

section Split

variable {m n : Nat}

theorem exists_append (w : BitVec (m + n)) : ∃ (x : BitVec m) (y : BitVec n), w = x ++ y := by
  refine ⟨w.extractLsb' n m, w.setWidth n, BitVec.eq_of_getLsbD_eq fun j hj => ?_⟩
  rw [BitVec.getLsbD_append]
  by_cases hjn : j < n
  · simp [hjn]
  · simp [hjn, show j - n < m by omega, show n + (j - n) = j by omega]

theorem exists_ofBool (x : BitVec 1) : ∃ b, x = BitVec.ofBool b := by
  revert x
  decide

theorem exists_append_ofBool (w : BitVec (m + 1)) : ∃ (x : BitVec m) (b : Bool), w = x ++ BitVec.ofBool b := by
  obtain ⟨x, y, rfl⟩ := exists_append w
  obtain ⟨b, rfl⟩ := exists_ofBool y
  exact ⟨x, b, rfl⟩

/-- A bound on a word bounds its upper field. -/
theorem toNat_lt_of_append_lt {x : BitVec m} {y : BitVec n} {k : Nat} (h : (x ++ y).toNat < 2 ^ (k + n)) : x.toNat < 2 ^ k := by
  rw [BitVec.toNat_append, ← Nat.shiftLeft_add_eq_or_of_lt y.isLt, Nat.shiftLeft_eq, Nat.pow_add] at h
  exact Nat.lt_of_mul_lt_mul_right (Nat.lt_of_le_of_lt (Nat.le_add_right _ _) h)

theorem append_eq_zero_append {x : BitVec m} {y : BitVec n} (h : (x ++ y).toNat < 2 ^ n) : x ++ y = 0#m ++ y := by
  have hx : x.toNat < 2 ^ 0 := toNat_lt_of_append_lt (by rwa [Nat.zero_add])
  rw [show x = 0#m from BitVec.eq_of_toNat_eq (by simpa using hx)]

end Split

theorem exists_samplerWord {bits : BitVec 9} (h : bits.toNat < 2 ^ 7) : ∃ p c i d, (⟨.sampler, bits⟩ : OpWord) = samplerWord p c i d := by
  obtain ⟨w, i, rfl⟩ := exists_append (m := 5) (n := 4) bits
  obtain ⟨w, c, rfl⟩ := exists_append_ofBool (m := 4) w
  obtain ⟨w, p, rfl⟩ := exists_append_ofBool (m := 3) w
  obtain ⟨w, d, rfl⟩ := exists_append_ofBool (m := 2) w
  have hw := toNat_lt_of_append_lt (k := 1) (toNat_lt_of_append_lt (k := 2) (toNat_lt_of_append_lt (k := 3) h))
  exact ⟨p, c, i, d, by rw [append_eq_zero_append hw]; rfl⟩

theorem exists_frameByteWord {bits : BitVec 9} (h : bits.toNat < 2 ^ 8) : ∃ v, (⟨.frameByte, bits⟩ : OpWord) = frameByteWord v := by
  obtain ⟨x, v, rfl⟩ := exists_append (m := 1) (n := 8) bits
  exact ⟨v, by rw [append_eq_zero_append h]; rfl⟩

theorem exists_stepInput (w : StepWord) : ∃ r l c d, w = stepInput r l c d := by
  obtain ⟨w, d, rfl⟩ := exists_append_ofBool (m := 3) w
  obtain ⟨w, c, rfl⟩ := exists_append_ofBool (m := 2) w
  obtain ⟨w, l, rfl⟩ := exists_append_ofBool (m := 1) w
  obtain ⟨r, rfl⟩ := exists_ofBool w
  exact ⟨r, l, c, d, rfl⟩

theorem exists_stepOpWord {bits : BitVec 9} (h : bits.toNat < 2 ^ 4) : ∃ r l c d, (⟨.stepWord, bits⟩ : OpWord) = stepOpWord r l c d := by
  obtain ⟨x, w, rfl⟩ := exists_append (m := 5) (n := 4) bits
  obtain ⟨r, l, c, d, rfl⟩ := exists_stepInput w
  exact ⟨r, l, c, d, by rw [append_eq_zero_append h]; rfl⟩

/-- A word with one bit above a byte (TABLEADDR, IDENT). -/
theorem exists_ofBool_append (bits : BitVec 9) : ∃ (b : Bool) (v : Byte), bits = BitVec.ofBool b ++ v := by
  obtain ⟨x, v, rfl⟩ := exists_append (m := 1) (n := 8) bits
  obtain ⟨b, rfl⟩ := exists_ofBool x
  exact ⟨b, v, rfl⟩

theorem getLsbD_ofBool_append (b : Bool) (v : Byte) : (BitVec.ofBool b ++ v).getLsbD 8 = b := by
  rw [BitVec.getLsbD_append]
  cases b <;> rfl

theorem setWidth_ofBool_append (b : Bool) (v : Byte) : (BitVec.ofBool b ++ v).setWidth 8 = v := BitVec.setWidth_append_eq_right

/-! ## What the built words decode to -/

theorem decode_samplerWord (p c : Bool) (i : BitVec 4) (d : Bool) :
    decode (samplerWord p c i d) = .ok (decodeSampler (samplerWord p c i d).bits) := if_pos (Laws.samplerWord_fits p c i d)

theorem decodeSampler_noEdge : ∀ i : BitVec 4, bitIndexField i = true → ∀ d,
    decodeSampler (samplerWord false false i d).bits = .sNoedgeLow i d ∧
    decodeSampler (samplerWord false true i d).bits = .sNoedgeRising i d ∧
    decodeSampler (samplerWord true true i d).bits = .sNoedgeHigh i d := by decide

/-- The words without a falling edge, at the positions of a frame (R92, R93). -/
theorem decode_samplerWord_noEdge (i : BitVec 4) (hi : bitIndexField i = true) (d : Bool) :
    decode (samplerWord false false i d) = .ok (.sNoedgeLow i d) ∧
    decode (samplerWord false true i d) = .ok (.sNoedgeRising i d) ∧
    decode (samplerWord true true i d) = .ok (.sNoedgeHigh i d) := by
  obtain ⟨hlow, hrising, hhigh⟩ := decodeSampler_noEdge i hi d
  rw [decode_samplerWord, decode_samplerWord, decode_samplerWord, hlow, hrising, hhigh]
  exact ⟨rfl, rfl, rfl⟩

theorem decode_frameByteWord (v : Byte) : decode (frameByteWord v) = .ok (decodeFrameByte v) := by
  have hv : (0#1 ++ v).setWidth 8 = v := BitVec.setWidth_append_eq_right
  exact (if_pos (Laws.frameByteWord_fits v)).trans (congrArg (fun v => Except.ok (decodeFrameByte v)) hv)

theorem decode_frameByteWord_terminal {v : Byte} (h : terminalField v = true) : decode (frameByteWord v) = .ok (.fTerm v) := by
  simp only [terminalField, Bool.and_eq_true, decide_eq_true_eq] at h
  obtain ⟨hbreak, hext⟩ := h
  rw [decode_frameByteWord, decodeFrameByte, if_neg hbreak, if_neg hext]

theorem decode_lookupWord (e : Bool) (c : Byte) : decode ⟨.tableAddr, BitVec.ofBool e ++ c⟩ = .ok (.tLookup e c) := by
  refine (if_pos (BitVec.isLt _)).trans ?_
  simp only [getLsbD_ofBool_append, setWidth_ofBool_append]

theorem decode_stepOpWord (r l c d : Bool) :
    decode (stepOpWord r l c d) = .ok (if r then .initLink l c d else if l then .clearChanged c d else .step false c d) := by
  cases r <;> cases l <;> cases c <;> cases d <;> rfl

section Ident

variable (b : Bool) {id : Byte}

theorem decode_identWord (id : Byte) : decode (identWord b id) = .ok (decodeIdent (BitVec.ofBool b ++ id)) := if_pos (BitVec.isLt _)

theorem decode_identWord_zero : decode (identWord b 0x00#8) = .ok (.kUnmapped b) := by cases b <;> rfl

theorem decode_identWord_ordinary (h : ordinaryField id = true) :
    decode (identWord b id) = .ok (if b then .ordRelease id else .ordPress id) := by
  simp only [ordinaryField, Bool.and_eq_true, decide_eq_true_eq] at h
  obtain ⟨h1, hDF⟩ := h
  have h0 : id ≠ 0#8 := by rintro rfl; exact absurd h1 (by decide)
  simp only [decode_identWord, decodeIdent, getLsbD_ofBool_append, setWidth_ofBool_append, if_neg h0, if_pos hDF]

theorem decodeIdent_modifier : ∀ (b : Bool) (n : Fin 8),
    decodeIdent (BitVec.ofBool b ++ BitVec.ofNat 8 (0xE0 + n.val)) = if b then .modRelease n else .modPress n := by decide

theorem decode_identWord_modifier (n : Fin 8) :
    decode (identWord b (BitVec.ofNat 8 (0xE0 + n.val))) = .ok (if b then .modRelease n else .modPress n) := by
  rw [decode_identWord, decodeIdent_modifier]

theorem decode_identWord_capsLock : decode (identWord b 0xE8#8) = .ok (if b then .capsRelease else .capsPress) := by cases b <;> rfl

theorem decode_identWord_reserved (h : reservedField id = true) : decode (identWord b id) = .ok (.reservedIdent b id) := by
  have hE9 : 0xE9 ≤ id.toNat := of_decide_eq_true h
  have h0 : id ≠ 0#8 := by rintro rfl; exact absurd hE9 (by decide)
  have hE8 : id ≠ 0xE8#8 := by rintro rfl; exact absurd hE9 (by decide)
  have hDF : ¬ id.toNat ≤ 0xDF := by omega
  have hE7 : ¬ id.toNat ≤ 0xE7 := by omega
  simp only [decode_identWord, decodeIdent, getLsbD_ofBool_append, setWidth_ofBool_append, if_neg h0, if_neg hDF, if_neg hE7, if_neg hE8]

/-- The identities by the ranges of the IDENT rows (R42). -/
theorem identity_cases (id : Byte) :
    id = 0x00#8 ∨ ordinaryField id = true ∨ (∃ n : Fin 8, id = BitVec.ofNat 8 (0xE0 + n.val)) ∨ id = 0xE8#8 ∨ reservedField id = true := by
  simp only [ordinaryField, reservedField, Bool.and_eq_true, decide_eq_true_eq]
  by_cases hmod : 0xE0 ≤ id.toNat ∧ id.toNat ≤ 0xE7
  · obtain ⟨hE0, hE7⟩ := hmod
    refine .inr (.inr (.inl ⟨⟨id.toNat - 0xE0, by omega⟩, ?_⟩))
    show id = BitVec.ofNat 8 (0xE0 + (id.toNat - 0xE0))
    rw [Nat.add_sub_of_le hE0, BitVec.ofNat_toNat, BitVec.setWidth_eq]
  · rw [← BitVec.toNat_inj, ← BitVec.toNat_inj (y := 0xE8#8)]
    show id.toNat = 0 ∨ _ ∨ _ ∨ id.toNat = 0xE8 ∨ _
    omega

end Ident

/-! ## From an operation to its word and back -/

/-- The decoder reads back every well-formed operation but the two that share their words with another row. -/
theorem decode_encode {i : Instr} (hwf : i.wf = true) (hstep : ∀ c d, i ≠ .step true c d) (hinit : ∀ l c d, i ≠ .initState l c d) :
    decode (encode i) = .ok i := by
  cases i with
  | sNoedgeLow i d =>
    obtain ⟨hlow, _, _⟩ := decode_samplerWord_noEdge i hwf d
    exact hlow
  | sNoedgeRising i d =>
    obtain ⟨_, hrising, _⟩ := decode_samplerWord_noEdge i hwf d
    exact hrising
  | sNoedgeHigh i d =>
    obtain ⟨_, _, hhigh⟩ := decode_samplerWord_noEdge i hwf d
    exact hhigh
  | sStart d | sData1 d | sData2 d | sData3 d | sData4 d | sData5 d | sData6 d | sData7 d | sData8 d | sParity d | sStop d =>
    cases d <;> rfl
  | reservedBitIndex11 p c d | reservedBitIndex12 p c d | reservedBitIndex13 p c d | reservedBitIndex14 p c d | reservedBitIndex15 p c d =>
    cases p <;> cases c <;> cases d <;> rfl
  | fTerm v => exact decode_frameByteWord_terminal hwf
  | tLookup e c => exact decode_lookupWord e c
  | kUnmapped b => exact decode_identWord_zero b
  | modPress n => exact decode_identWord_modifier false n
  | modRelease n => exact decode_identWord_modifier true n
  | ordPress id => exact decode_identWord_ordinary false hwf
  | ordRelease id => exact decode_identWord_ordinary true hwf
  | reservedIdent b id => exact decode_identWord_reserved b hwf
  | step l c d =>
    cases l with
    | false => exact decode_stepOpWord false false c d
    | true => exact absurd rfl (hstep c d)
  | clearChanged c d => exact decode_stepOpWord false true c d
  | initLink l c d => exact decode_stepOpWord true l c d
  | initState l c d => exact absurd rfl (hinit l c d)
  | _ => rfl

/-- Settles O1: the word of each row is decoded to it, and the two shared words to the row the decoder prefers. -/
theorem encodedOperationDecodesToItself : Obligations.EncodedOperationDecodesToItself :=
  ⟨fun _ => decode_encode, decode_stepOpWord false true, decode_stepOpWord true⟩

/-! ## From a word to its operation and back -/

/-- The word decodes to a well-formed operation whose word it is. -/
def RoundTrips (w : OpWord) : Prop := ∃ i, decode w = .ok i ∧ i.wf = true ∧ encode i = w

theorem RoundTrips.of_decode {w : OpWord} {i : Instr} (h : RoundTrips w) (hi : decode w = .ok i) : i.wf = true ∧ encode i = w := by
  obtain ⟨j, hj, hwf, henc⟩ := h
  cases hi.symm.trans hj
  exact ⟨hwf, henc⟩

/-- A falling edge at each of the eleven positions selects the row of that position (R92). -/
theorem encode_decodeSampler_fallingEdge : ∀ i : BitVec 4, bitIndexField i = true → ∀ d,
    (decodeSampler (samplerWord true false i d).bits).wf = true ∧
    encode (decodeSampler (samplerWord true false i d).bits) = samplerWord true false i d := by decide

/-- Beyond the last position every selector is a RESERVED row (R74). -/
theorem encode_decodeSampler_reserved : ∀ i : BitVec 4, bitIndexField i = false → ∀ p c d,
    (decodeSampler (samplerWord p c i d).bits).wf = true ∧
    encode (decodeSampler (samplerWord p c i d).bits) = samplerWord p c i d := by decide

theorem samplerWord_roundTrips (p c : Bool) (i : BitVec 4) (d : Bool) : RoundTrips (samplerWord p c i d) := by
  cases hi : bitIndexField i with
  | false => exact ⟨_, decode_samplerWord p c i d, encode_decodeSampler_reserved i hi p c d⟩
  | true =>
    obtain ⟨hlow, hrising, hhigh⟩ := decode_samplerWord_noEdge i hi d
    match p, c with
    | false, false => exact ⟨_, hlow, hi, rfl⟩
    | false, true => exact ⟨_, hrising, hi, rfl⟩
    | true, true => exact ⟨_, hhigh, hi, rfl⟩
    | true, false => exact ⟨_, decode_samplerWord true false i d, encode_decodeSampler_fallingEdge i hi d⟩

theorem frameByteWord_roundTrips (v : Byte) : RoundTrips (frameByteWord v) := by
  by_cases hbreak : v = 0xF0#8
  · subst hbreak
    exact ⟨.fBreak, rfl, rfl, rfl⟩
  · by_cases hext : v = 0xE0#8
    · subst hext
      exact ⟨.fExt, rfl, rfl, rfl⟩
    · have hv : terminalField v = true := by
        simp only [terminalField, Bool.and_eq_true, decide_eq_true_eq]
        exact ⟨hbreak, hext⟩
      exact ⟨_, decode_frameByteWord_terminal hv, hv, rfl⟩

theorem identWord_roundTrips (b : Bool) (id : Byte) : RoundTrips (identWord b id) := by
  rcases identity_cases id with rfl | hord | ⟨n, rfl⟩ | rfl | hres
  · exact ⟨_, decode_identWord_zero b, rfl, rfl⟩
  · refine ⟨_, decode_identWord_ordinary b hord, ?_⟩
    cases b <;> exact ⟨hord, rfl⟩
  · refine ⟨_, decode_identWord_modifier b n, ?_⟩
    cases b <;> exact ⟨rfl, rfl⟩
  · refine ⟨_, decode_identWord_capsLock b, ?_⟩
    cases b <;> exact ⟨rfl, rfl⟩
  · exact ⟨_, decode_identWord_reserved b hres, hres, rfl⟩

theorem stepOpWord_roundTrips (r l c d : Bool) : RoundTrips (stepOpWord r l c d) := by
  refine ⟨_, decode_stepOpWord r l c d, ?_⟩
  cases r with
  | true => exact ⟨rfl, rfl⟩
  | false => cases l <;> exact ⟨rfl, rfl⟩

theorem mem_of_rowAt {rows : List (Nat × Instr)} {a : Nat} {i : Instr} (h : rowAt rows a = some i) : (a, i) ∈ rows := by
  induction rows with
  | nil => cases h
  | cons row rows ih =>
    rw [rowAt] at h
    split at h
    · next hk => cases h; rw [← hk]; exact List.mem_cons_self
    · exact List.mem_cons_of_mem _ (ih h)

/-- Each TABLE_ENTRY row is well-formed and its word is its address. -/
theorem entryRows_encode : ∀ row ∈ plainEntryRows ++ extEntryRows, row.2.wf = true ∧ encode row.2 = entryWord (BitVec.ofNat 9 row.1) := by
  decide

/-- The table is the one the upper address bit selects (R71). -/
theorem mem_entryRows_of_rowAt {e : Bool} {a : Nat} {i : Instr} (h : rowAt (if e then extEntryRows else plainEntryRows) a = some i) :
    (a, i) ∈ plainEntryRows ++ extEntryRows := by
  cases e with
  | true => exact List.mem_append_right _ (mem_of_rowAt h)
  | false => exact List.mem_append_left _ (mem_of_rowAt h)

theorem mem_entryRows_of_decode {a : BitVec 9} {i : Instr} (h : decode (entryWord a) = .ok i) :
    (a.toNat, i) ∈ plainEntryRows ++ extEntryRows := by
  replace h := (if_pos (BitVec.isLt a)).symm.trans h
  dsimp only [entryWord] at h
  split at h
  · next hrow =>
    cases h
    exact mem_entryRows_of_rowAt hrow
  · cases h

theorem entryWord_roundTrips {a : BitVec 9} {i : Instr} (h : decode (entryWord a) = .ok i) : RoundTrips (entryWord a) := by
  obtain ⟨hwf, henc⟩ := entryRows_encode _ (mem_entryRows_of_decode h)
  rw [BitVec.ofNat_toNat, BitVec.setWidth_eq] at henc
  exact ⟨i, h, hwf, henc⟩

theorem encode_decodeOutput : ∀ n : BitVec 2, (decodeOutput n).wf = true ∧ encode (decodeOutput n) = ⟨.output, 0#7 ++ n⟩ := by decide

theorem outputWord_roundTrips {bits : BitVec 9} (h : bits.toNat < 2 ^ 2) : RoundTrips ⟨.output, bits⟩ := by
  obtain ⟨x, n, rfl⟩ := exists_append (m := 7) (n := 2) bits
  have hn : (x ++ n).setWidth 2 = n := BitVec.setWidth_append_eq_right
  have hdecode : decode ⟨.output, x ++ n⟩ = .ok (decodeOutput n) := (if_pos h).trans (congrArg (fun n => Except.ok (decodeOutput n)) hn)
  obtain ⟨hwf, henc⟩ := encode_decodeOutput n
  exact ⟨_, hdecode, hwf, by rw [append_eq_zero_append h, henc]⟩

theorem fits_of_decode {w : OpWord} {i : Instr} (h : decode w = .ok i) : w.bits.toNat < 2 ^ w.format.width := by
  refine Decidable.byContradiction fun hlt => ?_
  cases (if_neg hlt).symm.trans h

theorem roundTrips_of_decode {w : OpWord} {i : Instr} (h : decode w = .ok i) : RoundTrips w := by
  have hfits := fits_of_decode h
  obtain ⟨f, bits⟩ := w
  cases f with
  | sampler =>
    obtain ⟨p, c, i, d, hw⟩ := exists_samplerWord hfits
    exact hw ▸ samplerWord_roundTrips p c i d
  | frameByte =>
    obtain ⟨v, hw⟩ := exists_frameByteWord hfits
    exact hw ▸ frameByteWord_roundTrips v
  | tableAddr =>
    obtain ⟨e, c, rfl⟩ := exists_ofBool_append bits
    exact ⟨_, decode_lookupWord e c, rfl, rfl⟩
  | ident =>
    obtain ⟨b, id, rfl⟩ := exists_ofBool_append bits
    exact identWord_roundTrips b id
  | stepWord =>
    obtain ⟨r, l, c, d, hw⟩ := exists_stepOpWord hfits
    exact hw ▸ stepOpWord_roundTrips r l c d
  | output => exact outputWord_roundTrips hfits
  | tableEntry => exact entryWord_roundTrips h

/-- Settles O2: a word of each format is built from its fields, and the built words round-trip. -/
theorem decodedWordEncodesBack : Obligations.DecodedWordEncodesBack :=
  fun _ _ h => (roundTrips_of_decode h).of_decode h

/-- Settles O3: seven closed words, one for each format but OUTPUT, which the decoder evaluates. -/
theorem wordsOfTheTableDecode : Obligations.WordsOfTheTableDecode :=
  ⟨rfl, rfl, rfl, rfl, rfl, rfl, rfl⟩

end Sys2Proof

/-! PROOF. What a step runs for its input word (R60, R73, R170). -/

namespace Sys2Proof.Machine

theorem decode_stepWord (w : StepWord) : decode ⟨.stepWord, w.setWidth 9⟩ = .ok (decodeStepWord w) := by
  have hw : (w.setWidth 9).setWidth 4 = w := by rw [BitVec.setWidth_setWidth_of_le w (by decide), BitVec.setWidth_eq]
  have hfits : (w.setWidth 9).toNat < 2 ^ 4 := by
    rw [BitVec.toNat_setWidth_of_le (by decide)]
    exact w.isLt
  exact (if_pos hfits).trans (congrArg (fun w => Except.ok (decodeStepWord w)) hw)

/-- The three rows a step word is read as. -/
theorem decodeStepWord_cases (w : StepWord) :
    (∃ c d, decodeStepWord w = .step false c d) ∨ (∃ c d, decodeStepWord w = .clearChanged c d) ∨
    ∃ l c d, decodeStepWord w = .initLink l c d := by
  unfold decodeStepWord
  cases w.getLsbD 3 with
  | true => exact .inr (.inr ⟨_, _, _, rfl⟩)
  | false =>
    cases w.getLsbD 2 with
    | true => exact .inr (.inl ⟨_, _, rfl⟩)
    | false => exact .inl ⟨_, _, rfl⟩

/-- Settles O4: a step of a well-configured machine runs its decoded word, row by row. -/
theorem stepRunsTheDecodedWord : Obligations.StepRunsTheDecodedWord := by
  intro s h
  refine ⟨decodeStepWord (nextWord s), decode_stepWord (nextWord s), ?_⟩
  rw [step_of_wf h, runStep]
  rcases decodeStepWord_cases (nextWord s) with ⟨c, d, hi⟩ | ⟨c, d, hi⟩ | ⟨l, c, d, hi⟩ <;> rw [hi]
  · exact .inl ⟨c, d, rfl, rfl⟩
  · exact .inr (.inl ⟨c, d, rfl, rfl⟩)
  · exact .inr (.inr ⟨l, c, d, _, rfl, rfl, rfl⟩)

/-- Settles O49: each of these rows refuses in every state, under its own name. -/
theorem reservedRowsStop : Obligations.ReservedRowsStop :=
  fun _ _ _ _ _ _ => ⟨rfl, rfl, rfl, rfl, rfl, rfl⟩

end Sys2Proof.Machine

/-! PROOF. The data level of a step (R69, R181 to R183), and STEP as the operations its stages select (R73, R170). -/

namespace Sys2Proof.Machine

/-! ## The data level -/

/-- Only S.DATA reads the data level (R69). -/
theorem pollLink_congr_data {c : Bool} {b : Block} (h : ¬ (b.previousClock = true ∧ c = false ∧ 1 ≤ b.bitIndex.val ∧ b.bitIndex.val ≤ 8))
    (d d' : Bool) : pollLink c d b = pollLink c d' b := by
  rcases pollLink_cases c d b with ⟨hf, hp⟩ | ⟨hf, ⟨hi, hp⟩ | ⟨h1, h8, _⟩ | ⟨hi, hp⟩ | ⟨hi, hp⟩⟩
  · exact hp.trans (pollLink_noEdge d' hf).symm
  · exact hp.trans (pollLink_start d' hf hi).symm
  · obtain ⟨hclock, hc⟩ := fallingEdge_iff.mp hf
    exact absurd ⟨hclock, hc, h1, h8⟩ h
  · exact hp.trans (pollLink_parity d' hf hi).symm
  · exact hp.trans (pollLink_stop d' hf hi).symm

/-- Settles O13: STEP reads the data level in `poll_link` only. -/
theorem dataLevelMattersOnlyInDataBits : Obligations.DataLevelMattersOnlyInDataBits := by
  intro s l c d d' h
  show execStep l c d s = execStep l c d' s
  rw [execStep, execStep, pollLink_congr_data h d d']

/-! ## The sampler stage -/

/-- The SAMPLER word of a step: the clock level of the last step, that of this one, the position and the data level (R73 stage 1). -/
def selectorWord (c d : Bool) (b : Block) : OpWord := samplerWord b.previousClock c (BitVec.ofNat 4 b.bitIndex.val) d

theorem bitIndexField_of_position (k : Fin 11) : bitIndexField (BitVec.ofNat 4 k.val) = true := by
  revert k
  decide

theorem sampler_noEdge {c : Bool} (d : Bool) {s : State} (hf : fallingEdge s.block.previousClock c = false) :
    ∃ i, decode (selectorWord c d s.block) = .ok i ∧ exec i s = .next (s.finish (noEdge c s.block) .none) := by
  obtain ⟨hlow, hrising, hhigh⟩ := decode_samplerWord_noEdge _ (bitIndexField_of_position s.block.bitIndex) d
  rw [selectorWord]
  cases c with
  | true =>
    cases s.block.previousClock with
    | true => exact ⟨_, hhigh, rfl⟩
    | false => exact ⟨_, hrising, rfl⟩
  | false =>
    cases hp : s.block.previousClock with
    | true => rw [hp] at hf; cases hf
    | false => exact ⟨_, hlow, rfl⟩

/-- The S.DATA row of each position puts the data level in that position's bit (R95). -/
theorem sampler_data {n : Nat} (h1 : 1 ≤ n) (h8 : n ≤ 8) (d : Bool) :
    ∃ i, decode (samplerWord true false (BitVec.ofNat 4 n) d) = .ok i ∧ ∀ s, exec i s = .next (s.finish (dataBit n d s.block) .none) := by
  have hn : n = 1 ∨ n = 2 ∨ n = 3 ∨ n = 4 ∨ n = 5 ∨ n = 6 ∨ n = 7 ∨ n = 8 := by omega
  rcases hn with rfl | rfl | rfl | rfl | rfl | rfl | rfl | rfl <;> cases d <;> exact ⟨_, rfl, fun _ => rfl⟩

/-- The row that the selector names is the sampler operation that `poll_link` performs (R92). -/
theorem sampler_stage (c d : Bool) (s : State) :
    ∃ i, decode (selectorWord c d s.block) = .ok i ∧
      exec i s = .next (s.finish (pollLink c d s.block).1 (Result.ofEvent (pollLink c d s.block).2)) := by
  rcases pollLink_cases c d s.block with ⟨hf, hp⟩ | ⟨hf, hrows⟩
  · rw [hp]
    exact sampler_noEdge d hf
  · obtain ⟨hclock, rfl⟩ := fallingEdge_iff.mp hf
    rw [selectorWord, hclock]
    rcases hrows with ⟨hi, hp⟩ | ⟨h1, h8, hp⟩ | ⟨hi, hp⟩ | ⟨hi, hp⟩ <;> rw [hp]
    · rw [hi]
      exact ⟨_, decode_encode (i := .sStart d) rfl nofun nofun, rfl⟩
    · obtain ⟨i, hdec, hexec⟩ := sampler_data h1 h8 d
      exact ⟨i, hdec, hexec s⟩
    · rw [hi]
      exact ⟨_, decode_encode (i := .sParity d) rfl nofun nofun, rfl⟩
    · rw [hi]
      exact ⟨_, decode_encode (i := .sStop d) rfl nofun nofun, rfl⟩

/-! ## The tracker stage and `changed` -/

/-- `j` is the row that the class of the identity and `is_break` select (R73 stage 4, R121). -/
def SelectsRow (cfg : Config) (isBreak : Bool) (id : Byte) (j : Instr) : Prop :=
  (id = 0x00#8 ∧ j = .kUnmapped isBreak) ∨
  (∃ n : Fin 8, id = cfg.sentMod[n] ∧ j = if isBreak then .modRelease n else .modPress n) ∨
  (id = cfg.sentCaps ∧ j = if isBreak then .capsRelease else .capsPress) ∨
  (cfg.inOrdinaryRange id = true ∧ j = if isBreak then .ordRelease id else .ordPress id)

/-- The row that the identity selects performs what the tracker does on the event (R122). -/
theorem tracker_stage {s : State} {isBreak : Bool} {id : Byte} {t : Block} (h : trackIdentity s.config isBreak id s.block = some t) :
    ∃ j, SelectsRow s.config isBreak id j ∧ exec j s = .next (s.finish t .none) := by
  have hclass := Config.inClass_classify s.config id
  rcases trackIdentity_cases s.config isBreak id s.block with ⟨hc, ht⟩ | ⟨n, hc, ht⟩ | ⟨hc, ht⟩ | ⟨hc, ht⟩ | ⟨_, ht⟩ <;>
    rw [ht] at h <;> cases h
  · rw [hc] at hclass
    exact ⟨_, .inl ⟨hclass, rfl⟩, rfl⟩
  · rw [hc] at hclass
    refine ⟨_, .inr (.inl ⟨n, hclass, rfl⟩), ?_⟩
    cases isBreak <;> rfl
  · rw [hc] at hclass
    refine ⟨_, .inr (.inr (.inl ⟨hclass, rfl⟩)), ?_⟩
    cases isBreak <;> rfl
  · rw [hc] at hclass
    refine ⟨_, .inr (.inr (.inr ⟨hclass, rfl⟩)), ?_⟩
    cases isBreak <;> rfl

/-- The resolution of `changed`, with a mutation spelled out (R172). -/
theorem settle_eq (l : Bool) (b t : Block) :
    settle l b t = { t with changed := if t.modifiers ≠ b.modifiers ∨ t.keys ≠ b.keys then true else !l && b.changed } := by
  have hresolve : resolveChanged (mutated b t) l b.changed =
      if t.modifiers ≠ b.modifiers ∨ t.keys ≠ b.keys then true else !l && b.changed := by
    simp only [resolveChanged, mutated_iff]
    cases l <;> rfl
  rw [settle, hresolve]

/-- Without an event only a clear touches `changed` (R172). -/
theorem settle_self (l : Bool) (b : Block) : settle l b b = { b with changed := !l && b.changed } := by
  rw [settle_eq, if_neg (by simp)]

/-- Settles O7: `poll_link` is the selected sampler row, `dispatch` the look-up and the selected tracker row, and `settle` the resolution of `changed`. -/
theorem stepComposesItsSelectedOperations : Obligations.StepComposesItsSelectedOperations := by
  intro s l c d hwf
  obtain ⟨i, hdec, hexec⟩ := sampler_stage c d s
  rcases execStep_cases l c d s with ⟨hp, hx⟩ | ⟨e, tracked, hp, hd, hx⟩ | ⟨e, _, hd, _⟩
  · rw [hp] at hexec
    refine ⟨i, _, _, hdec, hexec, hx, rfl, .inl ⟨rfl, ?_⟩⟩
    rw [settle_self]
    rfl
  · rw [hp] at hexec
    obtain ⟨j, hj, hrow⟩ := tracker_stage (s := s.finish (pollLink c d s.block).1 (.event e)) hd
    refine ⟨i, _, _, hdec, hexec, hx, rfl, .inr ⟨e, _, j, _, rfl, rfl, hj, hrow, ?_⟩⟩
    rw [settle_eq]
    rfl
  · obtain ⟨t, ht⟩ := dispatch_isSome hwf e (pollLink c d s.block).1
    rw [ht] at hd; cases hd

end Sys2Proof.Machine

/-! PROOF. The SAMPLER rows (R93 to R97). -/

namespace Sys2Proof.Machine

/-- Settles O24: each of the three S.NOEDGE rows is the one operation on the clock level it names. -/
theorem noEdgeOnlyRecordsTheClock : Obligations.NoEdgeOnlyRecordsTheClock :=
  fun _ _ _ => ⟨rfl, rfl, rfl⟩

/-- Settles O25: neither row's meaning uses its data level. -/
theorem startAndParityOnlyAdvance : Obligations.StartAndParityOnlyAdvance :=
  fun _ _ => ⟨rfl, rfl⟩

/-- The row S.DATA(n), n = 1..8, is the shared operation on its own n. -/
theorem exec_dataRow {d : Bool} {n : Nat} {i : Instr}
    (h : (n, i) ∈ [(1, Instr.sData1 d), (2, .sData2 d), (3, .sData3 d), (4, .sData4 d), (5, .sData5 d), (6, .sData6 d), (7, .sData7 d),
      (8, .sData8 d)]) :
    1 ≤ n ∧ n ≤ 8 ∧ ∀ s, exec i s = .next (s.finish (dataBit n d s.block) .none) := by
  simp only [List.mem_cons, List.not_mem_nil, or_false, Prod.mk.injEq] at h
  rcases h with ⟨rfl, rfl⟩ | ⟨rfl, rfl⟩ | ⟨rfl, rfl⟩ | ⟨rfl, rfl⟩ | ⟨rfl, rfl⟩ | ⟨rfl, rfl⟩ | ⟨rfl, rfl⟩ | ⟨rfl, rfl⟩ <;>
    exact ⟨by decide, by decide, fun _ => rfl⟩

/-- Settles O26, with the bits of `putBit`. -/
theorem dataBitIsPutInItsPosition : Obligations.DataBitIsPutInItsPosition := by
  intro d s n i h
  obtain ⟨h1, h8, hexec⟩ := exec_dataRow h
  exact ⟨_, _, hexec s, Nat.mod_eq_of_lt (by omega), getLsbD_putBit s.block.byteValue (by omega) d⟩

/-- Settles O27, by the three frame-byte operations a byte selects. -/
theorem stopBitHandsOverTheFrameByte : Obligations.StopBitHandsOverTheFrameByte := by
  intro d s
  have hexec : exec (.sStop d) s = .next (s.finish (stopBit s.block).1 (Result.ofEvent (stopBit s.block).2)) := rfl
  rw [hexec, stopBit]
  rcases frameByte_cases s.block.byteValue { s.block with bitIndex := 0, byteValue := 0x00#8, previousClock := false } with
    ⟨hv, hx⟩ | ⟨hv, hx⟩ | ⟨hb, he, hx⟩ <;> rw [hx]
  · rw [hv]
    exact ⟨fun _ => rfl, fun h => absurd h (by decide), fun h => absurd rfl h⟩
  · rw [hv]
    exact ⟨fun h => absurd h (by decide), fun _ => rfl, fun _ h => absurd rfl h⟩
  · exact ⟨fun h => absurd h hb, fun h => absurd h he, fun _ _ => rfl⟩

end Sys2Proof.Machine

/-! PROOF. The block a step and a run leave, as a function of the parameters, the block and the input words (R5, R170). -/

namespace Sys2Proof.Machine

/-- The block STEP leaves: the decoder, then the tracker on the decoder's event, then the resolution of `changed` (R170, R172). -/
def Block.stepped (cfg : Config) (l c d : Bool) (b : Block) : Block :=
  settle l (pollLink c d b).1 (((pollLink c d b).2.bind fun e => dispatch cfg e (pollLink c d b).1).getD (pollLink c d b).1)

/-- The block one step leaves (R27, R170). -/
def Block.after (cfg : Config) (b : Block) (w : StepWord) : Block :=
  if StepWord.rst w then Block.reset cfg.prevClkReset else b.stepped cfg (StepWord.clr w) (StepWord.clock w) (StepWord.data w)

theorem execStep_stepped {s : State} (h : s.config.wf = true) (l c d : Bool) :
    ∃ r, execStep l c d s = .next (s.finish (s.block.stepped s.config l c d) r) := by
  rw [Block.stepped]
  rcases execStep_cases l c d s with ⟨hp, hx⟩ | ⟨e, t, hp, hd, hx⟩ | ⟨e, _, hd, _⟩
  · rw [hp]
    exact ⟨_, hx⟩
  · rw [hp, Option.bind_some, hd]
    exact ⟨_, hx⟩
  · obtain ⟨t, ht⟩ := dispatch_isSome h e (pollLink c d s.block).1
    rw [ht] at hd; cases hd

theorem step_after {s : State} (h : s.config.wf = true) :
    ∃ r, step s = .next ((consume s).finish (s.block.after s.config (nextWord s)) r) := by
  cases hr : StepWord.rst (nextWord s) with
  | true =>
    rw [Block.after, if_pos hr]
    exact ⟨_, step_of_rst h hr⟩
  | false =>
    rw [Block.after, hr, step_of_not_rst h hr]
    exact execStep_stepped (s := consume s) h _ _ _

/-- A run over the input words `ws` of a well-configured machine takes them and folds `Block.after` over them. -/
theorem run_after {ws rest : List StepWord} {s : State} (h : s.config.wf = true) (hs : s.stimulus = ws ++ rest) :
    ∃ t : State, Host.Core.run core ws.length s = .next t ∧ t.stimulus = rest ∧ t.config = s.config ∧
      t.block = ws.foldl (Block.after s.config) s.block := by
  induction ws generalizing s with
  | nil => exact ⟨s, rfl, hs, rfl, rfl⟩
  | cons w ws ih =>
    obtain ⟨r, hstep⟩ := step_after h
    rw [nextWord_cons s hs] at hstep
    have htail : (consume s).stimulus = ws ++ rest := congrArg List.tail hs
    obtain ⟨t, hrun, hst, hcfg, hb⟩ := ih (s := (consume s).finish (s.block.after s.config w) r) h htail
    exact ⟨t, (run_succ_eq_next core).mpr ⟨_, hstep, hrun⟩, hst, hcfg, hb⟩

/-- STEP leaves the decoder's elements as the decoder left them (R20). -/
theorem stepped_decoder (cfg : Config) (l c d : Bool) (b : Block) : SameDecoder (b.stepped cfg l c d) (pollLink c d b).1 := by
  rw [Block.stepped]
  cases (pollLink c d b).2 with
  | none => exact settle_decoder _ _ _
  | some e =>
    rw [Option.bind_some]
    cases hd : dispatch cfg e (pollLink c d b).1 with
    | none => exact settle_decoder _ _ _
    | some t => exact (settle_decoder _ _ _).trans (trackIdentity_decoder hd)

section Stepped

variable (cfg : Config) {c d : Bool} {b : Block}

/-- Without an event and a clear, STEP is the sampler operation alone (R170, R172). -/
theorem stepped_of_no_event {b' : Block} (h : pollLink c d b = (b', none)) : b.stepped cfg false c d = b' := by
  rw [Block.stepped, h]
  exact settle_self false b'

theorem stepped_noEdge (hf : fallingEdge b.previousClock c = false) : b.stepped cfg false c d = noEdge c b :=
  stepped_of_no_event cfg (pollLink_noEdge d hf)

end Stepped

theorem after_of_not_rst (cfg : Config) (b : Block) {w : StepWord} (h : StepWord.rst w = false) :
    b.after cfg w = b.stepped cfg (StepWord.clr w) (StepWord.clock w) (StepWord.data w) := by
  rw [Block.after, h]
  rfl

end Sys2Proof.Machine

/-! PROOF. The frame sequencer over steps and runs (R91, R93, R98, R100). -/

namespace Sys2Proof.Machine

/-- Every sampler operation records the clock level (R91). -/
theorem pollLink_previousClock (c d : Bool) (b : Block) : (pollLink c d b).1.previousClock = c := by
  rcases pollLink_cases c d b with ⟨_, h⟩ | ⟨hf, hrows⟩
  · rw [h]
    rfl
  · obtain ⟨_, rfl⟩ := fallingEdge_iff.mp hf
    rcases hrows with ⟨_, h⟩ | ⟨_, _, h⟩ | ⟨_, h⟩ | ⟨_, h⟩ <;> rw [h]
    · rfl
    · rfl
    · rfl
    · obtain ⟨_, _, hstop⟩ := stopBit_block b
      rw [hstop]

/-- The position advances modulo 11 at a falling edge and stays otherwise (R98). -/
theorem pollLink_bitIndex (c d : Bool) (b : Block) :
    (pollLink c d b).1.bitIndex.val = (b.bitIndex.val + if fallingEdge b.previousClock c then 1 else 0) % 11 := by
  rcases pollLink_cases c d b with ⟨hf, h⟩ | ⟨hf, ⟨hi, h⟩ | ⟨_, _, h⟩ | ⟨hi, h⟩ | ⟨hi, h⟩⟩ <;> rw [h, hf]
  · exact (Nat.mod_eq_of_lt b.bitIndex.isLt).symm
  · rw [hi]
    rfl
  · rfl
  · rw [hi]
    rfl
  · obtain ⟨_, _, hstop⟩ := stopBit_block b
    rw [hi, hstop]
    rfl

section After

variable (cfg : Config) (b : Block) {w : StepWord}

theorem after_previousClock (h : StepWord.rst w = false) : (b.after cfg w).previousClock = StepWord.clock w := by
  obtain ⟨_, _, hp, _⟩ := stepped_decoder cfg (StepWord.clr w) (StepWord.clock w) (StepWord.data w) b
  rw [after_of_not_rst cfg b h, hp, pollLink_previousClock]

theorem after_bitIndex (h : StepWord.rst w = false) :
    (b.after cfg w).bitIndex.val = (b.bitIndex.val + if fallingEdge b.previousClock (StepWord.clock w) then 1 else 0) % 11 := by
  obtain ⟨hi, _⟩ := stepped_decoder cfg (StepWord.clr w) (StepWord.clock w) (StepWord.data w) b
  rw [after_of_not_rst cfg b h, hi, pollLink_bitIndex]

/-- A sample without a falling edge, a clear or a reset is S.NOEDGE alone (R93). -/
theorem after_noEdge (hr : StepWord.rst w = false) (hl : StepWord.clr w = false) (hf : fallingEdge b.previousClock (StepWord.clock w) = false) :
    b.after cfg w = noEdge (StepWord.clock w) b := by
  rw [after_of_not_rst cfg b hr, hl, stepped_noEdge cfg hf]

end After

/-- Settles O10: advancing modulo 11 from a position in 0..10 is the increment, but for the return from 10 to 0. -/
theorem frameSequencerFollowsTheFallingEdges : Obligations.FrameSequencerFollowsTheFallingEdges := by
  intro s w ws hs hw hr
  obtain ⟨r, hstep⟩ := step_after hs
  rw [nextWord_cons s hw] at hstep
  refine ⟨_, hstep, after_previousClock s.config s.block hr, (after_bitIndex s.config s.block hr).trans ?_⟩
  have hlt := s.block.bitIndex.isLt
  show _ = if s.block.previousClock = true ∧ StepWord.clock w = false then _ else _
  by_cases hedge : s.block.previousClock = true ∧ StepWord.clock w = false
  · rw [if_pos (fallingEdge_iff.mpr hedge), if_pos hedge]
    split <;> omega
  · rw [if_neg fun hf => hedge (fallingEdge_iff.mp hf), if_neg hedge]
    omega

/-- The position after a list of samples (R100). -/
theorem foldl_after_bitIndex (cfg : Config) {ws : List StepWord} (h : ∀ w ∈ ws, StepWord.rst w = false) (b : Block) :
    (ws.foldl (Block.after cfg) b).bitIndex.val = (b.bitIndex.val + fallingEdges b.previousClock ws) % 11 := by
  induction ws generalizing b with
  | nil => exact (Nat.mod_eq_of_lt b.bitIndex.isLt).symm
  | cons w ws ih =>
    obtain ⟨hw, hws⟩ := List.forall_mem_cons.mp h
    rw [List.foldl_cons, ih hws, after_bitIndex cfg b hw, after_previousClock cfg b hw, Nat.mod_add_mod, Nat.add_assoc]
    rfl

/-- Settles O21, by induction on the samples. -/
theorem bitIndexCountsFallingEdgesModuloEleven : Obligations.BitIndexCountsFallingEdgesModuloEleven := by
  intro ws rest s hcfg hs hr
  obtain ⟨t, hrun, hst, _, hb⟩ := run_after hcfg hs
  exact ⟨t, hrun, hst, hb ▸ foldl_after_bitIndex s.config hr s.block⟩

/-- Samples without a falling edge, a clear or a reset write `previous_clock` only (R93). -/
theorem foldl_after_noEdge (cfg : Config) {ws : List StepWord} (h : ∀ w ∈ ws, StepWord.rst w = false ∧ StepWord.clr w = false) {b : Block}
    (hf : fallingEdges b.previousClock ws = 0) : ∃ p, ws.foldl (Block.after cfg) b = { b with previousClock := p } := by
  induction ws generalizing b with
  | nil => exact ⟨b.previousClock, rfl⟩
  | cons w ws ih =>
    obtain ⟨⟨hr, hl⟩, hws⟩ := List.forall_mem_cons.mp h
    obtain ⟨hfirst, hrest⟩ := Nat.add_eq_zero_iff.mp hf
    have hedge : fallingEdge b.previousClock (StepWord.clock w) = false := by simpa using hfirst
    rw [List.foldl_cons, after_noEdge cfg b hr hl hedge]
    exact ih hws (b := noEdge (StepWord.clock w) b) hrest

/-- Settles O22, by induction on the samples. -/
theorem samplesWithoutAFallingEdgeChangeNothing : Obligations.SamplesWithoutAFallingEdgeChangeNothing := by
  intro ws rest s hcfg hs h hf
  obtain ⟨t, hrun, hst, hc, hb⟩ := run_after hcfg hs
  obtain ⟨p, hp⟩ := foldl_after_noEdge s.config h hf
  exact ⟨t, p, hrun, hst, hc, hb.trans hp⟩

end Sys2Proof.Machine

/-! PROOF. A well-sampled frame (R100, R101, R210): each carried bit acts as one falling edge, and the eight data bits fill the accumulator. -/

namespace Sys2Proof.Machine

/-! ## One carried bit -/

theorem after_stimS (cfg : Config) (c d : Bool) (b : Block) : b.after cfg (stimS c d) = b.stepped cfg false c d := by
  cases c <;> cases d <;> rfl

/-- Samples at the clock level already recorded change nothing (R93). -/
theorem foldl_after_steady (cfg : Config) {c : Bool} {b : Block} (h : b.previousClock = c) (ds : List Bool) :
    (ds.map (stimS c)).foldl (Block.after cfg) b = b := by
  induction ds with
  | nil => rfl
  | cons d ds ih =>
    have hedge : fallingEdge b.previousClock c = false := by simp [fallingEdge, h]
    have hsame : noEdge c b = b := by rw [← h]; rfl
    rw [List.map_cons, List.foldl_cons, after_stimS, stepped_noEdge cfg hedge, hsame, ih]

/-- The block after a bit of level `d`: a high clock, then a falling edge at that level. -/
def Block.carry (cfg : Config) (b : Block) (d : Bool) : Block := (noEdge true b).stepped cfg false false d

/-- However a carried bit is stretched, only its level counts (R210). -/
theorem foldl_after_samples (cfg : Config) (b : Block) (bit : CarriedBit) :
    bit.samples.foldl (Block.after cfg) b = b.carry cfg bit.level := by
  have hfirst : b.after cfg (stimS true bit.firstHigh) = noEdge true b := by
    rw [after_stimS, stepped_noEdge cfg (by simp [fallingEdge])]
  have hlow : (b.carry cfg bit.level).previousClock = false := by
    obtain ⟨_, _, hp, _⟩ := stepped_decoder cfg false false bit.level (noEdge true b)
    exact hp.trans (pollLink_previousClock _ _ _)
  rw [CarriedBit.samples, List.foldl_cons, hfirst, List.foldl_append, foldl_after_steady cfg (noEdge_previousClock b true), List.foldl_cons,
    after_stimS]
  exact foldl_after_steady cfg hlow bit.lows

/-- Over a list of carried bits only the levels count. -/
theorem foldl_after_carriedBits (cfg : Config) (b : Block) (bits : List CarriedBit) :
    (bits.flatMap CarriedBit.samples).foldl (Block.after cfg) b = (bits.map (·.level)).foldl (Block.carry cfg) b := by
  simp only [List.foldl_flatMap, List.foldl_map, foldl_after_samples]

/-! ## The frame -/

/-- The block inside a frame, at position `i` with the byte `v` accumulated. -/
def Block.inFrame (b : Block) (i : Fin 11) (v : Byte) : Block := { b with bitIndex := i, byteValue := v, previousClock := false }

section Carry

variable (cfg : Config) {b : Block}

theorem carry_start (h : b.bitIndex = 0) (d : Bool) : b.carry cfg d = b.inFrame 1 b.byteValue :=
  stepped_of_no_event cfg (pollLink_start (b := noEdge true b) d rfl h)

theorem carry_data {k : Nat} (hk : k < 8) (v : Byte) (d : Bool) :
    (b.inFrame (Fin.ofNat 11 (k + 1)) v).carry cfg d = b.inFrame (Fin.ofNat 11 (k + 1 + 1)) (putBit v k d) := by
  have hi : (Fin.ofNat 11 (k + 1)).val = k + 1 := Nat.mod_eq_of_lt (by omega)
  have hpoll := pollLink_data (c := false) (b := noEdge true (b.inFrame (Fin.ofNat 11 (k + 1)) v)) d rfl
    (hi.symm ▸ Nat.succ_pos k) (hi.symm ▸ hk)
  refine (stepped_of_no_event cfg hpoll).trans ?_
  show dataBit (Fin.ofNat 11 (k + 1)).val d _ = _
  rw [hi]
  rfl

theorem carry_parity (v : Byte) (d : Bool) : (b.inFrame 9 v).carry cfg d = b.inFrame 10 v :=
  stepped_of_no_event cfg (pollLink_parity (b := noEdge true (b.inFrame 9 v)) d rfl rfl)

/-- The stop bit's step resets the accumulator, whatever the event does (R97). -/
theorem carry_stop (v : Byte) (d : Bool) :
    ((b.inFrame 10 v).carry cfg d).bitIndex = 0 ∧ ((b.inFrame 10 v).carry cfg d).byteValue = 0x00#8 ∧
    ((b.inFrame 10 v).carry cfg d).previousClock = false := by
  obtain ⟨hi, hv, hp, _⟩ := stepped_decoder cfg false false d (noEdge true (b.inFrame 10 v))
  rw [pollLink_stop d rfl rfl] at hi hv hp
  obtain ⟨_, _, hstop⟩ := stopBit_block (noEdge true (b.inFrame 10 v))
  rw [hstop] at hi hv hp
  exact ⟨hi, hv, hp⟩

/-- After the first `k` data bits of `v` the accumulator has them in place (R95). -/
theorem foldl_carry_data (v u : Byte) {k : Nat} (hk : k ≤ 8) :
    ∃ acc : Byte, (∀ j < k, acc.getLsbD j = v.getLsbD j) ∧
      ((List.range k).map v.getLsbD).foldl (Block.carry cfg) (b.inFrame 1 u) = b.inFrame (Fin.ofNat 11 (k + 1)) acc := by
  induction k with
  | zero => exact ⟨u, nofun, rfl⟩
  | succ k ih =>
    obtain ⟨acc, hacc, hfold⟩ := ih (by omega)
    refine ⟨putBit acc k (v.getLsbD k), fun j hj => ?_, ?_⟩
    · rw [getLsbD_putBit acc (by omega)]
      split
      · next h => rw [h]
      · exact hacc j (by omega)
    · rw [List.range_succ, List.map_append, List.foldl_append, hfold]
      exact carry_data cfg (by omega) acc _

/-- Eleven levels from position 0 end where the stop bit ends with their byte accumulated (R61, R100). -/
theorem foldl_carry_frameLevels (h : b.bitIndex = 0) (start : Bool) (v : Byte) (parity stop : Bool) :
    (frameLevels start v parity stop).foldl (Block.carry cfg) b = (b.inFrame 10 v).carry cfg stop := by
  have hlevels : frameLevels start v parity stop = start :: ((List.range 8).map v.getLsbD ++ [parity, stop]) := rfl
  obtain ⟨acc, hacc, hfold⟩ := foldl_carry_data cfg (b := b) v b.byteValue (Nat.le_refl 8)
  obtain rfl : acc = v := BitVec.eq_of_getLsbD_eq hacc
  rw [hlevels, List.foldl_cons, carry_start cfg h, List.foldl_append, hfold]
  exact congrArg (Block.carry cfg · stop) (carry_parity cfg acc parity)

end Carry

/-- Settles O23: the run folds the eleven levels, and the last of them is the stop bit's step with the whole byte accumulated. -/
theorem wellSampledFrameDeliversItsByte : Obligations.WellSampledFrameDeliversItsByte := by
  intro s bits rest start parity stop v hcfg h0 hbits hs
  obtain ⟨t, hrun, hst, hc, hb⟩ := run_after hcfg hs
  rw [foldl_after_carriedBits, hbits, foldl_carry_frameLevels s.config h0] at hb
  obtain ⟨r, hstop⟩ := execStep_stepped (s := { s with block := noEdge true (s.block.inFrame 10 v) }) hcfg false false stop
  obtain ⟨hi, hv, hp⟩ := carry_stop s.config (b := s.block) v stop
  exact ⟨t, _, hrun, hstop, hb, hst, hc, hb ▸ hi, hb ▸ hv, hb ▸ hp⟩

end Sys2Proof.Machine

/-! PROOF. The pending flags: the frame-byte operations, a run of prefixes, and what a step outside a stop bit leaves (R110 to R114, R122, R190). -/

namespace Sys2Proof.Machine

/-! ## The frame-byte operations -/

/-- Settles O28: each row is its shared operation, handed out with its result. -/
theorem frameByteOperationsSetAndConsumeTheFlags : Obligations.FrameByteOperationsSetAndConsumeTheFlags :=
  fun _ _ => ⟨rfl, rfl, rfl⟩

theorem runInstrs_cons_of_next {i : Instr} {s t : State} (h : exec i s = .next t) (is : List Instr) :
    runInstrs (i :: is) s = runInstrs is t := by
  rw [runInstrs, h, Answer.andThen]

/-- Settles O29, by induction on the prefixes: the first one sets its flag, and the rest run from the state it leaves. -/
theorem prefixesAccumulateUntilTheTerminalScancode : Obligations.PrefixesAccumulateUntilTheTerminalScancode := by
  intro prefixes v s
  induction prefixes generalizing s with
  | nil =>
    obtain ⟨_, _, hterm⟩ := frameByteOperationsSetAndConsumeTheFlags v s
    simpa [runInstrs] using runInstrs_cons_of_next hterm []
  | cons p ps ih =>
    obtain ⟨hbreak, hext, _⟩ := frameByteOperationsSetAndConsumeTheFlags v s
    cases p with
    | true => exact (runInstrs_cons_of_next hbreak _).trans ((ih _).trans (by simp))
    | false => exact (runInstrs_cons_of_next hext _).trans ((ih _).trans (by simp))

/-! ## A step outside a stop bit's falling edge -/

/-- Every sampler operation but S.STOP leaves the pending flags and emits nothing (R93 to R96, R114). -/
theorem pollLink_of_not_stop {c : Bool} {b : Block} (h : ¬ (b.previousClock = true ∧ c = false ∧ b.bitIndex = 10)) (d : Bool) :
    (pollLink c d b).1.breakPending = b.breakPending ∧ (pollLink c d b).1.extendedPending = b.extendedPending ∧ (pollLink c d b).2 = none := by
  rcases pollLink_cases c d b with ⟨_, hp⟩ | ⟨hf, ⟨_, hp⟩ | ⟨_, _, hp⟩ | ⟨_, hp⟩ | ⟨hi, _⟩⟩
  · rw [hp]; exact ⟨rfl, rfl, rfl⟩
  · rw [hp]; exact ⟨rfl, rfl, rfl⟩
  · rw [hp]; exact ⟨rfl, rfl, rfl⟩
  · rw [hp]; exact ⟨rfl, rfl, rfl⟩
  · obtain ⟨hclock, hc⟩ := fallingEdge_iff.mp hf
    exact absurd ⟨hclock, hc, hi⟩ h

/-- Without an event the tracker does not run (R122). -/
theorem execStep_of_no_event {c d : Bool} {s : State} (h : (pollLink c d s.block).2 = none) (l : Bool) :
    execStep l c d s = .next (s.finish (settle l (pollLink c d s.block).1 (pollLink c d s.block).1) .none) := by
  rcases execStep_cases l c d s with ⟨_, hx⟩ | ⟨_, _, hp, _⟩ | ⟨_, hp, _⟩
  · exact hx
  · rw [h] at hp; cases hp
  · rw [h] at hp; cases hp

/-- Settles O11: no other sampler operation writes a flag or emits an event, and without an event the tracker does not run. -/
theorem onlyAStopBitTouchesFlagsAndKeys : Obligations.OnlyAStopBitTouchesFlagsAndKeys := by
  intro s w ws hs hw hr hno
  have hn : nextWord s = w := nextWord_cons s hw
  obtain ⟨hbreak, hext, hevent⟩ := pollLink_of_not_stop (c := StepWord.clock w) hno (StepWord.data w)
  obtain ⟨hmod, hkeys, _⟩ := pollLink_keyboard (StepWord.clock w) (StepWord.data w) s.block
  have hstep := step_of_not_rst hs (hn.symm ▸ hr)
  rw [hn, execStep_of_no_event (s := consume s) hevent] at hstep
  exact ⟨_, hstep, hbreak, hext, hmod, hkeys, rfl⟩

end Sys2Proof.Machine

/-! PROOF. T.LOOKUP: the table it reads, and what it hands out (R41, R71, R120). -/

namespace Sys2Proof

open Machine

/-- R71, R41: the extended table for `is_extended` = 1, the plain table for 0. -/
theorem Config.lookup_eq_ite (cfg : Config) (e : Bool) (code : Byte) :
    cfg.lookup e code = if e then Memory.read cfg.extTable code.toNat else Memory.read cfg.plainTable code.toNat := by
  cases e with
  | true => rfl
  | false => rfl

namespace Machine

theorem exec_tLookup (e : Bool) (c : Byte) (s : State) :
    exec (.tLookup e c) s = .next (s.finish s.block (.identity (s.config.lookup e c))) := rfl

/-- Settles O30: T.LOOKUP ends with the block as it stands, and its result is the look-up in the selected table. -/
theorem lookupReadsTheSelectedTable : Obligations.LookupReadsTheSelectedTable := by
  intro e c s
  rw [exec_tLookup, State.finish, Config.lookup_eq_ite]

end Machine

end Sys2Proof

/-! PROOF. The Key Register File: each tracker operation, when it raises `changed`, and presses and releases one after another (R130 to R138, R185, R186). -/

namespace Sys2Proof.Machine

/-! ## The operations, each by the shared one it runs -/

theorem exec_modPress (n : Fin 8) (s : State) : exec (.modPress n) s = .next (s.finish (modPress n s.block) .none) := rfl
theorem exec_modRelease (n : Fin 8) (s : State) : exec (.modRelease n) s = .next (s.finish (modRelease n s.block) .none) := rfl
theorem exec_ordPress (id : Byte) (s : State) : exec (.ordPress id) s = .next (s.finish (ordPress id s.block) .none) := rfl
theorem exec_ordRelease (id : Byte) (s : State) : exec (.ordRelease id) s = .next (s.finish (ordRelease id s.block) .none) := rfl
theorem exec_capsPress (s : State) : exec .capsPress s = exec (.ordPress s.config.idCapsLock) s := rfl
theorem exec_capsRelease (s : State) : exec .capsRelease s = exec (.ordRelease s.config.idCapsLock) s := rfl

/-- Settles O34: K.UNMAPPED ends with the block as it stands. -/
theorem unmappedEventChangesNothing : Obligations.UnmappedEventChangesNothing :=
  fun _ _ => rfl

/-- Settles O39: each Caps Lock operation is the ordinary one on `ID_CAPSLOCK`, which completes. -/
theorem capsLockActsAsItsOrdinaryKey : Obligations.CapsLockActsAsItsOrdinaryKey :=
  fun s => ⟨⟨_, exec_capsPress s, exec_ordPress _ s⟩, ⟨_, exec_capsRelease s, exec_ordRelease _ s⟩⟩

/-! ## The modifiers -/

theorem putBit_putBit (v : Byte) {k : Nat} (hk : k < 8) (d d' : Bool) : putBit (putBit v k d) k d' = putBit v k d' := by
  apply BitVec.eq_of_getLsbD_eq
  intro j _
  rw [getLsbD_putBit _ hk, getLsbD_putBit _ hk, getLsbD_putBit _ hk]
  split <;> rfl

/-- Putting a bit that differs changes the value. -/
theorem putBit_ne_self {v : Byte} {k : Nat} (hk : k < 8) {d : Bool} (h : v.getLsbD k = !d) : putBit v k d ≠ v := by
  intro heq
  have hbit := getLsbD_putBit v hk d k
  rw [heq, if_pos rfl, h] at hbit
  exact (Bool.not_eq_self d).mp hbit

/-- MOD.PRESS puts bit `n` to 1 in any case, and raises `changed` where it was 0 (R131). -/
theorem modPress_eq (n : Fin 8) (b : Block) :
    modPress n b = { b with modifiers := putBit b.modifiers n true, changed := b.changed || !b.modifiers.getLsbD n } := by
  rcases modPress_cases n b with ⟨hn, h⟩ | ⟨hn, h⟩ <;> rw [h]
  · have hput : putBit b.modifiers n true = b.modifiers := hn ▸ putBit_same b.modifiers n.isLt
    rw [hput, hn, Bool.not_true, Bool.or_false]
  · rw [hn, Bool.not_false, Bool.or_true]

/-- MOD.RELEASE puts bit `n` to 0 in any case, and raises `changed` where it was 1 (R132). -/
theorem modRelease_eq (n : Fin 8) (b : Block) :
    modRelease n b = { b with modifiers := putBit b.modifiers n false, changed := b.changed || b.modifiers.getLsbD n } := by
  rcases modRelease_cases n b with ⟨hn, h⟩ | ⟨hn, h⟩ <;> rw [h]
  · have hput : putBit b.modifiers n false = b.modifiers := hn ▸ putBit_same b.modifiers n.isLt
    rw [hput, hn, Bool.or_false]
  · rw [hn, Bool.or_true]

theorem modRelease_of_clear {n : Fin 8} {b : Block} (h : b.modifiers.getLsbD n = false) : modRelease n b = b := by
  rw [modRelease, if_neg (Bool.eq_false_iff.mp h)]

/-- Settles O35: the value MOD.PRESS writes is `modifiers` with bit `n` put to 1. -/
theorem modifierPressSetsItsBit : Obligations.ModifierPressSetsItsBit := by
  intro n s
  refine ⟨putBit s.block.modifiers n true, ?_, fun m => ?_⟩
  · rw [exec_modPress, modPress_eq, State.finish]
  · simp only [getLsbD_putBit _ n.isLt, Fin.val_inj]
    by_cases hmn : m = n <;> simp [hmn]

/-- Settles O36: the value MOD.RELEASE writes is `modifiers` with bit `n` put to 0. -/
theorem modifierReleaseClearsItsBit : Obligations.ModifierReleaseClearsItsBit := by
  intro n s
  refine ⟨putBit s.block.modifiers n false, ?_, fun m => ?_⟩
  · rw [exec_modRelease, modRelease_eq, State.finish]
  · simp only [getLsbD_putBit _ n.isLt, Fin.val_inj]
    by_cases hmn : m = n <;> simp [hmn]

/-! ## The slots -/

section Slots

variable {id : Byte} {b : Block}

theorem ordPress_of_held (h : ∃ i : Fin 6, b.keys[i] = id) : ordPress id b = b := by
  rw [ordPress, if_pos (holds_iff.mpr h)]

/-- R185: with six slots full a press is dropped, held or not. -/
theorem ordPress_of_full (h : ∀ i : Fin 6, b.keys[i] ≠ 0x00#8) : ordPress id b = b := by
  rcases ordPress_cases id b with ⟨_, hp⟩ | ⟨_, _, hp⟩ | ⟨_, e, he, _⟩
  · exact hp
  · exact hp
  · exact absurd he (h e)

/-- A key in no slot goes into the first empty one (R135). -/
theorem ordPress_of_first_empty {e : Fin 6} (hnot : ∀ i : Fin 6, b.keys[i] ≠ id) (he : b.keys[e] = 0x00#8)
    (hleast : ∀ j : Fin 6, j < e → b.keys[j] ≠ 0x00#8) : ordPress id b = { b with keys := b.keys.set e id, changed := true } := by
  rcases ordPress_cases id b with ⟨⟨i, hi⟩, _⟩ | ⟨_, hfull, _⟩ | ⟨_, e', he', hleast', hp⟩
  · exact absurd hi (hnot i)
  · exact absurd he (hfull e)
  · obtain rfl : e' = e := Fin.le_antisymm (Fin.not_lt.mp fun hlt => hleast' e hlt he) (Fin.not_lt.mp fun hlt => hleast e' hlt he')
    exact hp

/-- R186: the release of a key in no slot is dropped. -/
theorem ordRelease_of_untracked (h : ∀ i : Fin 6, b.keys[i] ≠ id) : ordRelease id b = b := by
  rcases ordRelease_cases id b with ⟨_, hp⟩ | ⟨m, hm, _⟩
  · exact hp
  · exact absurd hm (h m)

/-- The first slot that holds the key is emptied (R136). -/
theorem ordRelease_of_first {m : Fin 6} (hm : b.keys[m] = id) (hleast : ∀ j : Fin 6, j < m → b.keys[j] ≠ id) :
    ordRelease id b = { b with keys := b.keys.set m 0x00#8, changed := true } := by
  rcases ordRelease_cases id b with ⟨hnot, _⟩ | ⟨m', hm', hleast', hp⟩
  · exact absurd hm (hnot m)
  · obtain rfl : m' = m := Fin.le_antisymm (Fin.not_lt.mp fun hlt => hleast' m hlt hm) (Fin.not_lt.mp fun hlt => hleast m' hlt hm')
    exact hp

end Slots

theorem get_set_self (keys : Vector Byte 6) (e : Fin 6) (v : Byte) : (keys.set e v)[e] = v := by
  rw [get_set, if_pos rfl]

theorem get_set_of_ne (keys : Vector Byte 6) {e i : Fin 6} (v : Byte) (h : i ≠ e) : (keys.set e v)[i] = keys[i] := by
  rw [get_set, if_neg h]

/-- Writing a slot with another value changes the slots. -/
theorem set_ne_self {keys : Vector Byte 6} {e : Fin 6} {v : Byte} (h : keys[e] ≠ v) : keys.set e v ≠ keys := by
  intro heq
  have hslot := get_set_self keys e v
  rw [heq] at hslot
  exact h hslot

/-- Settles O37: a held key and a full file drop the press, and a write to slot `e` leaves every other slot. -/
theorem ordinaryPressTakesTheFirstEmptySlot : Obligations.OrdinaryPressTakesTheFirstEmptySlot := by
  intro id s
  refine ⟨fun hheld => ?_, fun _ hfull => ?_, fun e hnot he hleast => ?_⟩
  · rw [exec_ordPress, ordPress_of_held hheld, State.finish]
  · rw [exec_ordPress, ordPress_of_full hfull, State.finish]
  · refine ⟨s.block.keys.set e id, ?_, get_set_self _ e id, fun j hj => get_set_of_ne _ id hj⟩
    rw [exec_ordPress, ordPress_of_first_empty hnot he hleast, State.finish]

/-- Settles O38: an untracked key drops the release, and a write to slot `m` leaves every other slot. -/
theorem ordinaryReleaseEmptiesTheMatchingSlot : Obligations.OrdinaryReleaseEmptiesTheMatchingSlot := by
  intro id s
  refine ⟨fun hnot => ?_, fun m hm hleast => ?_⟩
  · rw [exec_ordRelease, ordRelease_of_untracked hnot, State.finish]
  · refine ⟨s.block.keys.set m 0x00#8, ?_, get_set_self _ m _, fun j hj => get_set_of_ne _ _ hj⟩
    rw [exec_ordRelease, ordRelease_of_first hm hleast, State.finish]

/-- Settles O42: MOD.RELEASE of a clear bit and ORD.RELEASE of an untracked key leave the block; CAPS.RELEASE is the latter. -/
theorem releaseOfAnUntrackedKeyChangesNothing : Obligations.ReleaseOfAnUntrackedKeyChangesNothing := by
  intro s
  refine ⟨fun n hn => ?_, fun id hnot => ?_, fun hnot => ?_⟩
  · rw [exec_modRelease, modRelease_of_clear hn, State.finish]
  · rw [exec_ordRelease, ordRelease_of_untracked hnot, State.finish]
  · rw [exec_capsRelease, exec_ordRelease, ordRelease_of_untracked hnot, State.finish]

/-! ## `changed` marks a mutation (R137) -/

/-- `after` is what a tracker operation may make of `before`: `changed` is raised where a mutation lies between the two, and kept elsewhere. -/
def MarksMutation (before after : Block) : Prop := after.changed = (before.changed || mutated after before)

theorem MarksMutation.refl (b : Block) : MarksMutation b b := by
  simp [MarksMutation, mutated]

theorem MarksMutation.of_modifiers_ne {b : Block} {v : Byte} (h : v ≠ b.modifiers) :
    MarksMutation b { b with modifiers := v, changed := true } := by
  rw [MarksMutation, mutated_iff.mpr (.inl h.symm), Bool.or_true]

theorem MarksMutation.of_keys_ne {b : Block} {k : Vector Byte 6} (h : k ≠ b.keys) : MarksMutation b { b with keys := k, changed := true } := by
  rw [MarksMutation, mutated_iff.mpr (.inr h.symm), Bool.or_true]

theorem modPress_marksMutation (n : Fin 8) (b : Block) : MarksMutation b (modPress n b) := by
  rcases modPress_cases n b with ⟨_, h⟩ | ⟨hn, h⟩ <;> rw [h]
  · exact .refl b
  · exact .of_modifiers_ne (putBit_ne_self n.isLt hn)

theorem modRelease_marksMutation (n : Fin 8) (b : Block) : MarksMutation b (modRelease n b) := by
  rcases modRelease_cases n b with ⟨_, h⟩ | ⟨hn, h⟩ <;> rw [h]
  · exact .refl b
  · exact .of_modifiers_ne (putBit_ne_self n.isLt hn)

theorem ordPress_marksMutation (id : Byte) (b : Block) : MarksMutation b (ordPress id b) := by
  rcases ordPress_cases id b with ⟨_, h⟩ | ⟨_, _, h⟩ | ⟨hnot, e, _, _, h⟩ <;> rw [h]
  · exact .refl b
  · exact .refl b
  · exact .of_keys_ne (set_ne_self (hnot e))

/-- The identity is not 0: ORD.RELEASE of 0 would "empty" a slot that is empty. -/
theorem ordRelease_marksMutation {id : Byte} (hid : id ≠ 0x00#8) (b : Block) : MarksMutation b (ordRelease id b) := by
  rcases ordRelease_cases id b with ⟨_, h⟩ | ⟨m, hm, _, h⟩ <;> rw [h]
  · exact .refl b
  · exact .of_keys_ne (set_ne_self (hm ▸ hid))

theorem ne_zero_of_ordinaryField {id : Byte} (h : ordinaryField id = true) : id ≠ 0x00#8 := by
  rintro rfl
  exact absurd h (by decide)

theorem MarksMutation.of_exec {i : Instr} {s t : State} {b : Block} {r : Result} (h : exec i s = .next t)
    (hx : exec i s = .next (s.finish b r)) (hb : MarksMutation s.block b) : MarksMutation s.block t.block := by
  rw [hx] at h
  cases h
  exact hb

/-- Settles O40: each operation writes `changed` with a mutation only, and the identity a release takes is not 0. -/
theorem trackerSetsChangedExactlyOnAMutation : Obligations.TrackerSetsChangedExactlyOnAMutation := by
  intro i s t hcfg hwf hi h
  obtain ⟨hcaps, _⟩ := Config.caps_identity hcfg
  show MarksMutation s.block t.block
  rcases hi with ⟨c, rfl⟩ | ⟨n, rfl⟩ | ⟨n, rfl⟩ | rfl | rfl | ⟨id, rfl⟩ | ⟨id, rfl⟩
  · exact .of_exec h (unmappedEventChangesNothing c s) (.refl s.block)
  · exact .of_exec h (exec_modPress n s) (modPress_marksMutation n s.block)
  · exact .of_exec h (exec_modRelease n s) (modRelease_marksMutation n s.block)
  · exact .of_exec h (exec_capsPress s) (ordPress_marksMutation _ s.block)
  · exact .of_exec h (exec_capsRelease s) (ordRelease_marksMutation hcaps s.block)
  · exact .of_exec h (exec_ordPress id s) (ordPress_marksMutation id s.block)
  · exact .of_exec h (exec_ordRelease id s) (ordRelease_marksMutation (ne_zero_of_ordinaryField hwf) s.block)

/-! ## Two identical presses (P1) -/

theorem modPress_modPress (n : Fin 8) (b : Block) : modPress n (modPress n b) = modPress n b := by
  have hset : (modPress n b).modifiers.getLsbD n = true := by
    rw [modPress_eq]
    exact (getLsbD_putBit _ n.isLt true n).trans (if_pos rfl)
  rcases modPress_cases n (modPress n b) with ⟨_, h⟩ | ⟨hn, _⟩
  · exact h
  · rw [hset] at hn; cases hn

/-- A press that was dropped is dropped again, and one that took effect left its key held. -/
theorem ordPress_ordPress (id : Byte) (b : Block) : ordPress id (ordPress id b) = ordPress id b := by
  rcases ordPress_cases id b with ⟨_, h⟩ | ⟨_, _, h⟩ | ⟨_, e, _, _, h⟩
  · rw [h, h]
  · rw [h, h]
  · rw [h]
    exact ordPress_of_held ⟨e, get_set_self _ e id⟩

/-- Settles O41: each press is idempotent on the block, and hands out nothing both times. -/
theorem repeatedPressChangesNothing : Obligations.RepeatedPressChangesNothing := by
  intro i s t hi h
  rcases hi with ⟨n, rfl⟩ | rfl | ⟨id, rfl⟩
  · rw [exec_modPress] at h; cases h
    rw [exec_modPress, State.finish_block, modPress_modPress, State.finish, State.finish]
  · rw [exec_capsPress, exec_ordPress] at h; cases h
    rw [exec_capsPress, exec_ordPress, State.finish_block, State.finish_config, ordPress_ordPress, State.finish, State.finish]
  · rw [exec_ordPress] at h; cases h
    rw [exec_ordPress, State.finish_block, ordPress_ordPress, State.finish, State.finish]

/-! ## A press and its release (P5, C4) -/

theorem runInstrs_modPress_modRelease (n : Fin 8) (s : State) :
    runInstrs [.modPress n, .modRelease n] s = .next (s.finish (modRelease n (modPress n s.block)) .none) := rfl

theorem runInstrs_ordPress_ordRelease (id : Byte) (s : State) :
    runInstrs [.ordPress id, .ordRelease id] s = .next (s.finish (ordRelease id (ordPress id s.block)) .none) := rfl

theorem modRelease_modPress_of_clear {n : Fin 8} {b : Block} (h : b.modifiers.getLsbD n = false) :
    modRelease n (modPress n b) = { b with changed := true } := by
  have hput : putBit b.modifiers n false = b.modifiers := h ▸ putBit_same b.modifiers n.isLt
  rw [modPress_eq, modRelease_eq, putBit_putBit _ n.isLt, hput, h, Bool.not_false, Bool.or_true, Bool.true_or]

theorem set_set_of_get {keys : Vector Byte 6} {e : Fin 6} {v : Byte} (u : Byte) (h : keys[e] = v) : (keys.set e u).set e v = keys := by
  subst h
  simp

/-- The release finds the key in the slot the press wrote, and only there. -/
theorem ordRelease_ordPress_of_room {id : Byte} {b : Block} (hnot : ∀ i : Fin 6, b.keys[i] ≠ id) (hroom : ∃ i : Fin 6, b.keys[i] = 0x00#8) :
    ordRelease id (ordPress id b) = { b with changed := true } := by
  rcases ordPress_cases id b with ⟨⟨i, hi⟩, _⟩ | ⟨_, hfull, _⟩ | ⟨_, e, he, _, hp⟩
  · exact absurd hi (hnot i)
  · obtain ⟨i, hi⟩ := hroom
    exact absurd hi (hfull i)
  · have hother : ∀ j : Fin 6, j < e → (b.keys.set e id)[j] ≠ id := fun j hj => by
      rw [get_set_of_ne _ id (Fin.ne_of_lt hj)]
      exact hnot j
    rw [hp, ordRelease_of_first (get_set_self b.keys e id) hother, set_set_of_get id he]

/-- Settles O44: the release undoes what the press wrote, and a dropped press leaves nothing to release. -/
theorem pressThenReleaseRestoresTheState : Obligations.PressThenReleaseRestoresTheState := by
  intro s
  refine ⟨fun n hn => ?_, fun id _ hnot hroom => ?_, fun id hnot hfull => ?_⟩
  · rw [runInstrs_modPress_modRelease, modRelease_modPress_of_clear hn, State.finish]
  · rw [runInstrs_ordPress_ordRelease, ordRelease_ordPress_of_room hnot hroom, State.finish]
  · rw [runInstrs_ordPress_ordRelease, ordPress_of_full hfull, ordRelease_of_untracked hnot, State.finish]

/-- With I3 a key stands in one slot at most, so one release takes it out of the slots. -/
theorem ordRelease_removes {id : Byte} {b : Block} (h : KeysDistinct b) (hid : id ≠ 0x00#8) (i : Fin 6) : (ordRelease id b).keys[i] ≠ id := by
  rcases ordRelease_cases id b with ⟨hnot, hp⟩ | ⟨m, hm, _, hp⟩ <;> rw [hp]
  · exact hnot i
  · intro hi
    by_cases him : i = m
    · rw [him, get_set_self] at hi
      exact hid hi.symm
    · rw [get_set_of_ne _ _ him] at hi
      exact him (h i m (hi ▸ hid) (hi.trans hm.symm))

/-- Settles O45: the press of a held key is dropped, and the release takes the key out of its one slot. -/
theorem pressThenReleaseOfAHeldKeyRemovesIt : Obligations.PressThenReleaseOfAHeldKeyRemovesIt := by
  intro s id hdistinct hid hheld
  refine ⟨_, runInstrs_ordPress_ordRelease id s, fun i => ?_⟩
  rw [State.finish_block, ordPress_of_held hheld]
  exact ordRelease_removes hdistinct hid i

/-! ## Distinct keys one after another (P4) -/

/-- The slots after the keys `ids` were pressed into six empty ones: the first six in order, 0 where there are fewer. -/
def slotsOf (ids : List Byte) : Vector Byte 6 := Vector.ofFn fun i => ids.getD i 0x00#8

theorem slotsOf_get (ids : List Byte) (i : Fin 6) : (slotsOf ids)[i] = ids.getD i 0x00#8 := by
  simp [slotsOf]

theorem slotsOf_get_of_lt {ids : List Byte} {i : Fin 6} (h : i.val < ids.length) : (slotsOf ids)[i] = ids[i.val] := by
  rw [slotsOf_get, List.getD_eq_getElem?_getD, List.getElem?_eq_getElem h, Option.getD_some]

theorem slotsOf_get_of_le {ids : List Byte} {i : Fin 6} (h : ids.length ≤ i.val) : (slotsOf ids)[i] = 0x00#8 := by
  rw [slotsOf_get, List.getD_eq_getElem?_getD, List.getElem?_eq_none h, Option.getD_none]

theorem slotsOf_get_ne {ids : List Byte} {id : Byte} (hid : id ≠ 0x00#8) (h : id ∉ ids) (i : Fin 6) : (slotsOf ids)[i] ≠ id := by
  by_cases hi : i.val < ids.length
  · rw [slotsOf_get_of_lt hi]
    exact fun heq => h (heq ▸ List.getElem_mem hi)
  · rw [slotsOf_get_of_le (Nat.not_lt.mp hi)]
    exact hid.symm

theorem slotsOf_get_ne_zero {ids : List Byte} (h0 : 0x00#8 ∉ ids) {i : Fin 6} (hi : i.val < ids.length) : (slotsOf ids)[i] ≠ 0x00#8 := by
  rw [slotsOf_get_of_lt hi]
  exact fun heq => h0 (heq ▸ List.getElem_mem hi)

theorem slots_ext {a b : Vector Byte 6} (h : ∀ i : Fin 6, a[i] = b[i]) : a = b :=
  Vector.ext fun i hi => h ⟨i, hi⟩

theorem slotsOf_append_of_lt {ids : List Byte} (id : Byte) (h : ids.length < 6) :
    slotsOf (ids ++ [id]) = (slotsOf ids).set (⟨ids.length, h⟩ : Fin 6) id := by
  refine slots_ext fun i => ?_
  rcases Nat.lt_trichotomy i.val ids.length with hlt | heq | hgt
  · rw [get_set_of_ne _ _ (fun hi => Nat.ne_of_lt hlt (congrArg Fin.val hi)), slotsOf_get_of_lt hlt, slotsOf_get_of_lt (by simp; omega),
      List.getElem_append_left hlt]
  · obtain rfl : i = ⟨ids.length, h⟩ := Fin.ext heq
    rw [get_set_self, slotsOf_get_of_lt (by simp), List.getElem_concat_length rfl]
  · rw [get_set_of_ne _ _ (fun hi => Nat.ne_of_gt hgt (congrArg Fin.val hi)), slotsOf_get_of_le (Nat.le_of_lt hgt),
      slotsOf_get_of_le (by simp; omega)]

theorem slotsOf_append_of_le {ids : List Byte} (more : List Byte) (h : 6 ≤ ids.length) : slotsOf (ids ++ more) = slotsOf ids := by
  refine slots_ext fun i => ?_
  have hi : i.val < ids.length := Nat.lt_of_lt_of_le i.isLt h
  rw [slotsOf_get_of_lt hi, slotsOf_get_of_lt (by simp; omega), List.getElem_append_left hi]

/-- A new key after `ids` takes the next slot, and is dropped after six (R135, R185). -/
theorem ordPress_slotsOf {ids : List Byte} {id : Byte} {b : Block} (hb : b.keys = slotsOf ids) (h0 : 0x00#8 ∉ ids) (hid : id ≠ 0x00#8)
    (hnew : id ∉ ids) :
    ordPress id b = { b with keys := slotsOf (ids ++ [id]), changed := b.changed || decide (ids.length < 6) } := by
  by_cases hlen : ids.length < 6
  · have hpress : ordPress id b = { b with keys := b.keys.set (⟨ids.length, hlen⟩ : Fin 6) id, changed := true } := by
      refine ordPress_of_first_empty ?_ ?_ ?_ <;> rw [hb]
      · exact slotsOf_get_ne hid hnew
      · exact slotsOf_get_of_le (Nat.le_refl _)
      · exact fun j hj => slotsOf_get_ne_zero h0 hj
    rw [hpress, slotsOf_append_of_lt id hlen, decide_eq_true hlen, Bool.or_true, hb]
  · have h6 : 6 ≤ ids.length := Nat.not_lt.mp hlen
    rw [ordPress_of_full (fun i => hb ▸ slotsOf_get_ne_zero h0 (Nat.lt_of_lt_of_le i.isLt h6)), slotsOf_append_of_le _ h6,
      decide_eq_false hlen, Bool.or_false, ← hb]

/-- The press of the next of the keys `pressed ++ id :: ids`, which are distinct and not 0. -/
theorem exec_ordPress_slotsOf {pressed ids : List Byte} {id : Byte} {s : State} (hs : s.block.keys = slotsOf pressed)
    (h0 : 0x00#8 ∉ pressed ++ id :: ids) (hdistinct : (pressed ++ id :: ids).Nodup) :
    exec (.ordPress id) s = .next (s.finish
      { s.block with keys := slotsOf (pressed ++ [id]), changed := s.block.changed || decide (pressed.length < 6) } .none) := by
  obtain ⟨_, _, hapart⟩ := List.nodup_append.mp hdistinct
  have hnew : id ∉ pressed := fun h => hapart id h id List.mem_cons_self rfl
  have hid : id ≠ 0x00#8 := fun h => h0 (List.mem_append_right _ (h ▸ List.mem_cons_self))
  rw [exec_ordPress, ordPress_slotsOf hs (fun h => h0 (List.mem_append_left _ h)) hid hnew]

/-- A further press raises `changed` only where the presses before it did: it finds no more room than they. -/
theorem changed_after_next_press (c : Bool) (n : Nat) : ((c || decide (n < 6)) || decide (n + 1 < 6)) = (c || decide (n < 6)) := by
  have hle : decide (n + 1 < 6) = true → decide (n < 6) = true := by
    simp only [decide_eq_true_eq]
    omega
  cases hn : decide (n + 1 < 6) with
  | false => rw [Bool.or_false]
  | true => rw [hle hn, Bool.or_true, Bool.or_true]

/-- Distinct keys pressed after `pressed`, by induction on the keys after the first. -/
theorem runInstrs_ordPress_slotsOf {pressed : List Byte} {id : Byte} (ids : List Byte) {s : State} (hs : s.block.keys = slotsOf pressed)
    (h0 : 0x00#8 ∉ pressed ++ id :: ids) (hdistinct : (pressed ++ id :: ids).Nodup) :
    runInstrs ((id :: ids).map Instr.ordPress) s = .next (s.finish
      { s.block with keys := slotsOf (pressed ++ id :: ids), changed := s.block.changed || decide (pressed.length < 6) } .none) := by
  induction ids generalizing pressed id s with
  | nil => exact runInstrs_cons_of_next (exec_ordPress_slotsOf hs h0 hdistinct) []
  | cons id' ids ih =>
    have hsplit : pressed ++ id :: id' :: ids = (pressed ++ [id]) ++ id' :: ids := by simp
    rw [List.map_cons, runInstrs_cons_of_next (exec_ordPress_slotsOf hs h0 hdistinct)]
    rw [hsplit] at h0 hdistinct ⊢
    rw [ih rfl h0 hdistinct]
    simp only [State.finish, List.length_append, List.length_singleton, changed_after_next_press]

theorem toList_eq_ofFn {n : Nat} (v : Vector Byte n) : v.toList = List.ofFn fun i : Fin n => v[i] :=
  List.ext_getElem (by simp) fun i _ _ => by rw [Vector.getElem_toList, List.getElem_ofFn]; rfl

theorem nodup_toList {n : Nat} {v : Vector Byte n} (h : ∀ i j : Fin n, v[i] = v[j] → i = j) : v.toList.Nodup := by
  rw [List.Nodup, List.pairwise_iff_getElem]
  intro i j hi hj hlt hij
  rw [Vector.getElem_toList, Vector.getElem_toList] at hij
  rw [Vector.length_toList] at hi hj
  exact Nat.ne_of_lt hlt (congrArg Fin.val (h ⟨i, hi⟩ ⟨j, hj⟩ hij))

theorem slotsOf_seven (ids : Vector Byte 7) : slotsOf ids.toList = #v[ids[0], ids[1], ids[2], ids[3], ids[4], ids[5]] := by
  rw [toList_eq_ofFn]
  rfl

theorem eq_slotsOf_nil {keys : Vector Byte 6} (h : ∀ i : Fin 6, keys[i] = 0x00#8) : keys = slotsOf [] :=
  slots_ext fun i => (h i).trans (slotsOf_get_of_le (Nat.zero_le _)).symm

/-- Settles O43: from no keys pressed, the presses fill the slots in order, and the seventh finds no room. -/
theorem sevenKeysLeaveTheFirstSix : Obligations.SevenKeysLeaveTheFirstSix := by
  intro s ids hdistinct h0 hempty
  have hnodup : ids.toList.Nodup := nodup_toList hdistinct
  have hzero : 0x00#8 ∉ ids.toList := by
    rw [toList_eq_ofFn, List.mem_ofFn]
    rintro ⟨i, hi⟩
    exact h0 i hi
  rw [← slotsOf_seven]
  obtain ⟨id, rest, hids⟩ : ∃ id rest, ids.toList = id :: rest := List.exists_cons_of_length_pos (by simp)
  rw [hids] at hnodup hzero ⊢
  rw [runInstrs_ordPress_slotsOf rest (eq_slotsOf_nil hempty) hzero hnodup, State.finish, List.nil_append, List.length_nil,
    decide_eq_true (by decide), Bool.or_true]

end Sys2Proof.Machine

/-! PROOF. The report boundary: the queries and CLEAR_CHANGED (R150 to R154, R46). -/

namespace Sys2Proof.Machine

/-! ## The operations -/

theorem exec_getModifiers (s : State) : exec .getModifiers s = .next (s.finish s.block (.modifiers s.block.modifiers)) := rfl
theorem exec_getKeys (s : State) : exec .getKeys s = .next (s.finish s.block (.keys s.block.keys)) := rfl
theorem exec_hasChanged (s : State) : exec .hasChanged s = .next (s.finish s.block (.changed s.block.changed)) := rfl
theorem exec_report (s : State) : exec .report s = .next (s.finish s.block (.report (reportBytes s.block))) := rfl
theorem exec_clearChanged (c d : Bool) (s : State) : exec (.clearChanged c d) s = .next (s.finish (clearFlag s.block) .none) := rfl

/-- An operation that leaves the block as it is changes no more of the state than what it hands out. -/
theorem State.finish_self (s : State) (r : Result) : s.finish s.block r = { s with result := r } := rfl

/-! ## The report's bytes -/

@[simp] theorem reportBytes_modifiers (b : Block) : (reportBytes b)[0] = b.modifiers := rfl
@[simp] theorem reportBytes_reserved (b : Block) : (reportBytes b)[1] = 0x00#8 := rfl

/-- The six slots follow the reserved byte in slot order (R46). -/
theorem reportBytes_slot (b : Block) (i : Nat) (h : i < 6) : (reportBytes b)[2 + i] = b.keys[i] := by
  match i, h with
  | 0, _ | 1, _ | 2, _ | 3, _ | 4, _ | 5, _ => rfl

/-- Settles O46: each query ends with the block it began with, and the report carries the registers byte by byte. -/
theorem queriesHandOutTheRegisters : Obligations.QueriesHandOutTheRegisters := by
  intro s
  refine ⟨?_, ?_, ?_, reportBytes s.block, ?_, reportBytes_modifiers _, reportBytes_reserved _, reportBytes_slot _⟩
  · rw [exec_getModifiers, State.finish_self]
  · rw [exec_getKeys, State.finish_self]
  · rw [exec_hasChanged, State.finish_self]
  · rw [exec_report, State.finish_self]

/-- Settles O47: the operation ends with `clearFlag` of the block, which writes no other element. -/
theorem clearChangedTouchesNothingElse : Obligations.ClearChangedTouchesNothingElse := by
  intro c d s
  rw [exec_clearChanged, State.finish, clearFlag]

end Sys2Proof.Machine

/-! PROOF. The make of a plain scancode (R112, R121, R170): the event its stop edge hands over, and the two entries that every well-formed table has
(R162). -/

namespace Sys2Proof.Machine

/-! ## The stop edge of a make -/

/-- The next falling edge is the stop bit of the scancode `code` with neither flag pending (R97, R112). -/
def Block.atMake (code : Byte) (b : Block) : Prop :=
  b.previousClock = true ∧ b.bitIndex = 10 ∧ b.byteValue = code ∧ b.breakPending = false ∧ b.extendedPending = false

/-- The decoder hands over the make `(code, 0, 0)` (R112). -/
theorem pollLink_event_of_atMake {code : Byte} {b : Block} (h : b.atMake code) (hbreak : code ≠ breakPrefix) (hext : code ≠ extPrefix) (d : Bool) :
    (pollLink false d b).2 = some ⟨code, false, false⟩ := by
  obtain ⟨hclk, hi, rfl, hbp, hep⟩ := h
  rw [pollLink_stop d (fallingEdge_iff.mpr ⟨hclk, rfl⟩) hi, stopBit_event_of_terminal hbreak hext, hbp, hep]

/-- With an event STEP is the decoder, the tracker on the event and the resolution of `changed` (R170). -/
theorem execStep_of_event {c d : Bool} {s : State} {e : Event} {t : Block} (hp : (pollLink c d s.block).2 = some e)
    (hd : dispatch s.config e (pollLink c d s.block).1 = some t) (l : Bool) :
    execStep l c d s = .next (s.finish (settle l (pollLink c d s.block).1 t) (.event e)) := by
  simp only [execStep, hp, hd]

/-- The tracker gets the make of the identity that the plain table has for `code` (R120, R121). -/
theorem exec_step_of_atMake {code : Byte} {d : Bool} {s : State} {t : Block} (h : s.block.atMake code) (hbreak : code ≠ breakPrefix)
    (hext : code ≠ extPrefix) (ht : trackIdentity s.config false (s.config.lookup false code) (pollLink false d s.block).1 = some t) (l : Bool) :
    exec (.step l false d) s = .next (s.finish (settle l (pollLink false d s.block).1 t) (.event ⟨code, false, false⟩)) :=
  execStep_of_event (pollLink_event_of_atMake h hbreak hext d) ht l

/-! ## The tracker on a make, by the class of the identity (R121) -/

theorem trackIdentity_make_modifier {cfg : Config} {id : Byte} {n : Fin 8} (h : cfg.classify id = .modifier n) (b : Block) :
    trackIdentity cfg false id b = some (modPress n b) := by
  rw [trackIdentity, h]
  rfl

theorem trackIdentity_make_ordinary {cfg : Config} {id : Byte} (h : cfg.classify id = .ordinary) (b : Block) :
    trackIdentity cfg false id b = some (ordPress id b) := by
  rw [trackIdentity, h]
  rfl

/-- R131: bit `n` is set and every other bit kept. -/
theorem getLsbD_modPress (n m : Fin 8) (b : Block) :
    (modPress n b).modifiers.getLsbD m = (b.modifiers.getLsbD m || decide (m = n)) := by
  simp only [modPress_eq, getLsbD_putBit _ n.isLt, Fin.val_inj]
  by_cases hmn : m = n <;> simp [hmn]

/-- R135: with six empty slots the identity goes into slot 0. -/
theorem ordPress_of_empty {id : Byte} {b : Block} (hid : id ≠ 0x00#8) (hempty : ∀ i : Fin 6, b.keys[i] = 0x00#8) :
    ordPress id b = { b with keys := #v[id, 0x00#8, 0x00#8, 0x00#8, 0x00#8, 0x00#8], changed := true } := by
  have hnot : ∀ i : Fin 6, b.keys[i] ≠ id := fun i hi => hid (hi.symm.trans (hempty i))
  rw [ordPress_of_first_empty (e := 0) hnot (hempty 0) fun j hj => absurd hj (Fin.not_lt_zero j), eq_slotsOf_nil hempty]
  rfl

/-! ## Left Shift and A (R162) -/

/-- R162: the plain scancode 0x12 is Left Shift, by W5. -/
theorem classify_lookup_leftShift {cfg : Config} (h : cfg.wf = true) : cfg.classify (cfg.lookup false 0x12#8) = .modifier 1 := by
  obtain ⟨_, _, _, _, _, _, hfixed⟩ := Config.wf_parts h
  obtain ⟨_, hshift⟩ := Config.fixedEntries_iff.mp hfixed
  exact Config.InClass.classify_eq h (k := .modifier 1) hshift

/-- R162: the plain scancode 0x1C is an ordinary key, by W5. -/
theorem classify_lookup_a {cfg : Config} (h : cfg.wf = true) : cfg.classify (cfg.lookup false 0x1C#8) = .ordinary := by
  obtain ⟨_, _, _, _, _, _, hfixed⟩ := Config.wf_parts h
  obtain ⟨ha, _⟩ := Config.fixedEntries_iff.mp hfixed
  exact Config.InClass.classify_eq h (k := .ordinary) ha

/-- Settles O16: W5 makes the identity `SENT_MOD(1)`, so the tracker runs MOD.PRESS(1) on the Keyboard State, which the decoder left as it was. -/
theorem leftShiftMakeSetsModifierBitOne : Obligations.LeftShiftMakeSetsModifierBitOne := by
  intro s l d hwf hclk hi hv hbp hep
  obtain ⟨hmod, hkeys, _⟩ := pollLink_keyboard false d s.block
  have htrack := trackIdentity_make_modifier (classify_lookup_leftShift hwf) (pollLink false d s.block).1
  refine ⟨_, exec_step_of_atMake ⟨hclk, hi, hv, hbp, hep⟩ (by decide) (by decide) htrack l, ?_, fun n => ?_⟩
  · rw [State.finish_block, settle_keys, modPress_keys, hkeys]
  · rw [State.finish_block, settle_modifiers, getLsbD_modPress, hmod]

/-- Settles O17: W5 makes the identity ordinary, so it is non-zero and the tracker runs ORD.PRESS on six empty slots. The slots differ after it, which
sets `changed` whether or not the step clears it (R172). -/
theorem makeOfAPutsItsIdentityIntoTheFirstSlot : Obligations.MakeOfAPutsItsIdentityIntoTheFirstSlot := by
  intro s l d hwf hclk hi hv hbp hep hempty
  obtain ⟨hmod, hkeys, _⟩ := pollLink_keyboard false d s.block
  have hclass := classify_lookup_a hwf
  obtain ⟨hid, _⟩ := Config.classify_ordinary hclass
  have htrack := trackIdentity_make_ordinary hclass (pollLink false d s.block).1
  rw [← hkeys] at hempty
  rw [ordPress_of_empty hid hempty] at htrack
  refine ⟨_, exec_step_of_atMake ⟨hclk, hi, hv, hbp, hep⟩ (by decide) (by decide) htrack l, hmod, ?_, rfl, hid⟩
  rw [State.finish_block, settle_eq]
  refine if_pos (.inr fun heq => hid ?_)
  exact (congrArg (fun keys => keys[(0 : Fin 6)]) heq).trans (hempty 0)

end Sys2Proof.Machine

/-! PROOF. The default tables: the TABLE_ENTRY rows read their entries, and no identity occurs twice (R160, R161, R163). -/

namespace Sys2Proof

/-! ## The entries of both tables -/

/-- A mapped address has an entry. -/
theorem Memory.mem_of_read_ne {m : Memory} {a : Nat} (h : Memory.read m a ≠ Memory.unlisted) : (a, Memory.read m a) ∈ m := by
  induction m with
  | nil => exact absurd rfl h
  | cons head m ih =>
    obtain ⟨k, v⟩ := head
    rw [Memory.read] at h ⊢
    split
    · next hk => rw [hk]; exact List.mem_cons_self
    · next hk =>
      rw [if_neg hk] at h
      exact List.mem_cons_of_mem _ (ih h)

/-- The address of an entry of a canonical table is mapped. -/
theorem Memory.read_ne_of_mem {m : Memory} (h : Memory.wf m = true) {cell : Host.Cell} (hc : cell ∈ m) :
    Memory.read m (BitVec.ofNat 8 cell.1).toNat ≠ Memory.unlisted := by
  simp only [Memory.wf, Bool.and_eq_true, List.all_eq_true, decide_eq_true_eq] at h
  obtain ⟨hrising, hcells⟩ := h
  obtain ⟨haddr, hvalue⟩ := hcells cell hc
  rwa [BitVec.toNat_ofNat, Nat.mod_eq_of_lt haddr, Memory.read_of_mem hrising hc]

namespace Config

/-- The entries of both tables, each with the table it stands in: `is_extended`, then code and identity. -/
def entries (cfg : Config) : List (Bool × Host.Cell) := cfg.plainTable.map (Prod.mk false) ++ cfg.extTable.map (Prod.mk true)

theorem mem_entries_of_lookup_ne {cfg : Config} {e : Bool} {c : Byte} (h : cfg.lookup e c ≠ 0x00#8) :
    (e, c.toNat, cfg.lookup e c) ∈ cfg.entries := by
  have hcell := Memory.mem_of_read_ne h
  cases e with
  | false => exact List.mem_append_left _ (List.mem_map_of_mem hcell)
  | true => exact List.mem_append_right _ (List.mem_map_of_mem hcell)

theorem lookup_ne_of_mem_entries {cfg : Config} (h : cfg.wf = true) {entry : Bool × Host.Cell} (hentry : entry ∈ cfg.entries) :
    cfg.lookup entry.1 (BitVec.ofNat 8 entry.2.1) ≠ 0x00#8 := by
  obtain ⟨hplain, hext, _⟩ := wf_parts h
  rcases List.mem_append.mp hentry with hmem | hmem <;> obtain ⟨cell, hcell, rfl⟩ := List.mem_map.mp hmem
  · exact Memory.read_ne_of_mem hplain hcell
  · exact Memory.read_ne_of_mem hext hcell

/-! ## No identity twice -/

/-- Where no identity is listed twice, entries with one identity are one entry. -/
theorem entry_eq_of_identity_eq {l : List (Bool × Host.Cell)} (hnodup : (l.map fun entry => entry.2.2).Nodup) {x y : Bool × Host.Cell}
    (hx : x ∈ l) (hy : y ∈ l) (heq : x.2.2 = y.2.2) : x = y := by
  induction l with
  | nil => cases hx
  | cons head l ih =>
    obtain ⟨hhead, hrest⟩ := List.nodup_cons.mp hnodup
    have hfresh : ∀ z ∈ l, z.2.2 ≠ head.2.2 := fun z hz hzh => hhead (List.mem_map.mpr ⟨z, hz, hzh⟩)
    rcases List.mem_cons.mp hx with rfl | hxl
    · rcases List.mem_cons.mp hy with rfl | hyl
      · rfl
      · exact absurd heq.symm (hfresh y hyl)
    · rcases List.mem_cons.mp hy with rfl | hyl
      · exact absurd heq (hfresh x hxl)
      · exact ih hrest hxl hyl

/-- Where no identity is listed twice, mapped look-ups of one identity are look-ups at one address. -/
theorem lookup_injective {cfg : Config} (hnodup : (cfg.entries.map fun entry => entry.2.2).Nodup) {e e' : Bool} {c c' : Byte}
    (h : cfg.lookup e c ≠ 0x00#8) (heq : cfg.lookup e c = cfg.lookup e' c') : e = e' ∧ c = c' := by
  have hentry := entry_eq_of_identity_eq hnodup (mem_entries_of_lookup_ne h) (mem_entries_of_lookup_ne (heq ▸ h)) heq
  obtain ⟨he, hcell⟩ := Prod.mk.inj hentry
  obtain ⟨hc, _⟩ := Prod.mk.inj hcell
  exact ⟨he, BitVec.eq_of_toNat_eq hc⟩

/-- R163: the 104 default entries list 104 identities. -/
theorem standard_entries_nodup : (Config.standard.entries.map fun entry => entry.2.2).Nodup := by decide

/-- Settles O32: two equal mapped look-ups read entries with one identity, and the default tables list no identity twice. -/
theorem defaultTablesAreInjective : Obligations.DefaultTablesAreInjective :=
  fun _ _ _ _ => lookup_injective standard_entries_nodup

end Config

/-! ## The TABLE_ENTRY rows -/

namespace Machine

/-- Each TABLE_ENTRY row is decoded from its word, and its operation is the read at its word's address (R71). -/
theorem decode_exec_tableEntry {i : Instr} (h : (encode i).format = .tableEntry) :
    decode (encode i) = .ok i ∧ ∀ s, exec i s = readEntry (encode i).bits s := by
  cases i with
  | sNoedgeLow | sNoedgeRising | sNoedgeHigh | sStart | sData1 | sData2 | sData3 | sData4 | sData5 | sData6 | sData7 | sData8 | sParity
  | sStop | reservedBitIndex11 | reservedBitIndex12 | reservedBitIndex13 | reservedBitIndex14 | reservedBitIndex15 => cases h
  | fBreak | fExt | fTerm | tLookup => cases h
  | kUnmapped | modPress | modRelease | capsPress | capsRelease | ordPress | ordRelease | reservedIdent => cases h
  | step | clearChanged | initLink | initState => cases h
  | getModifiers | getKeys | hasChanged | report => cases h
  | _ => exact ⟨rfl, fun _ => rfl⟩

/-- The 104 rows stand at the 9-bit addresses `{is_extended, code}` of the 104 default entries (R71, R160, R161). -/
theorem entryRows_addresses : (plainEntryRows ++ extEntryRows).map (fun row => BitVec.ofNat 9 row.1) =
    Config.standard.entries.map fun entry => BitVec.ofBool entry.1 ++ BitVec.ofNat 8 entry.2.1 := by
  decide

/-- The default tables map the address of every TABLE_ENTRY row. -/
theorem standard_lookup_tableEntry_ne_zero {i : Instr} (h : (encode i).format = .tableEntry) :
    Config.standard.lookup ((encode i).bits.getLsbD 8) ((encode i).bits.setWidth 8) ≠ 0x00#8 := by
  obtain ⟨hdec, _⟩ := decode_exec_tableEntry h
  have hword : encode i = entryWord (encode i).bits := congrArg (OpWord.mk · (encode i).bits) h
  rw [hword] at hdec
  have haddr := List.mem_map_of_mem (f := fun row => BitVec.ofNat 9 row.1) (mem_entryRows_of_decode hdec)
  rw [entryRows_addresses, BitVec.ofNat_toNat, BitVec.setWidth_eq] at haddr
  obtain ⟨entry, hentry, hbits⟩ := List.mem_map.mp haddr
  rw [← hbits, getLsbD_ofBool_append, setWidth_ofBool_append]
  exact Config.lookup_ne_of_mem_entries Config.standard_wf hentry

/-- Settles O31: the row's operation is the look-up at its address, and every such address is mapped by the default tables. -/
theorem tableEntryRowsReadTheirEntry : Obligations.TableEntryRowsReadTheirEntry := by
  intro i s h
  obtain ⟨_, hexec⟩ := decode_exec_tableEntry h
  refine ⟨_, hexec s, ?_, fun hcfg => ?_⟩
  · rw [Config.lookup, BitVec.toNat_setWidth]
  · rw [hcfg]
    exact standard_lookup_tableEntry_ne_zero h

end Machine

end Sys2Proof

/-! PROOF. The step's resolution of `changed`, and the two initialisations (R172 to R174). -/

namespace Sys2Proof.Machine

/-! ## The resolution of `changed` (R172) -/

/-- The decoder writes no element of the Keyboard State, so a mutation after the decoder is one against the block it began with. -/
theorem settle_pollLink_changed (l c d : Bool) (b tracked : Block) :
    (settle l (pollLink c d b).1 tracked).changed =
      if tracked.modifiers ≠ b.modifiers ∨ tracked.keys ≠ b.keys then true else if l then false else b.changed := by
  obtain ⟨hmod, hkeys, hchanged⟩ := pollLink_keyboard c d b
  simp only [settle_changed, resolveChanged, mutated_iff, hmod, hkeys, hchanged]

/-- In the block STEP leaves, `changed` agrees with its `modifiers` and `keys`: the resolution comes last and writes neither. -/
theorem stepped_changed (cfg : Config) (l c d : Bool) (b : Block) :
    (b.stepped cfg l c d).changed =
      if (b.stepped cfg l c d).modifiers ≠ b.modifiers ∨ (b.stepped cfg l c d).keys ≠ b.keys then true else if l then false else b.changed := by
  rw [Block.stepped, settle_modifiers, settle_keys, settle_pollLink_changed]

/-- Settles O8: without a reset the step leaves the block STEP leaves on its input word. -/
theorem changedIsResolvedAfterTheMutation : Obligations.ChangedIsResolvedAfterTheMutation := by
  intro s w ws hs hw hr
  obtain ⟨r, hstep⟩ := step_after hs
  rw [nextWord_cons s hw, after_of_not_rst s.config s.block hr] at hstep
  exact ⟨_, hstep, stepped_changed s.config (StepWord.clr w) (StepWord.clock w) (StepWord.data w) s.block⟩

/-! ## The initialisations (R173, R174) -/

theorem exec_initLink (l c d : Bool) (s : State) :
    exec (.initLink l c d) s = .next (s.finish (initDecoder s.config.prevClkReset s.block) .none) := rfl

theorem exec_initState (l c d : Bool) (s : State) : exec (.initState l c d) s = .next (s.finish (initKeyboard s.block) .none) := rfl

/-- Settles O48: each row ends with its own component's initialisation, which writes no element of the other. -/
theorem initialisationsResetTheirOwnComponent : Obligations.InitialisationsResetTheirOwnComponent := by
  intro l c d s
  constructor
  · rw [exec_initLink, State.finish, initDecoder]
  · rw [exec_initState, State.finish, initKeyboard]

end Sys2Proof.Machine

/-! PROOF. What one step can write of the Keyboard State (R189): the tracker runs at most one operation, and each writes one slot or one modifier bit. -/

namespace Sys2Proof.Machine

/-- From the one block to the other either `modifiers` holds and every slot but one, or `keys` holds and every modifier bit but one (R189). -/
def WritesAtMostOne (before after : Block) : Prop :=
  (after.modifiers = before.modifiers ∧ ∃ i : Fin 6, ∀ j : Fin 6, j ≠ i → after.keys[j] = before.keys[j]) ∨
  (after.keys = before.keys ∧ ∃ n : Fin 8, ∀ m : Fin 8, m ≠ n → after.modifiers.getLsbD m = before.modifiers.getLsbD m)

section WritesAtMostOne

variable {before after : Block}

theorem WritesAtMostOne.of_keyboard_eq (hmod : after.modifiers = before.modifiers) (hkeys : after.keys = before.keys) :
    WritesAtMostOne before after :=
  .inl ⟨hmod, 0, fun j _ => congrArg (·[j]) hkeys⟩

theorem WritesAtMostOne.of_set {e : Fin 6} {v : Byte} (hmod : after.modifiers = before.modifiers) (hkeys : after.keys = before.keys.set e v) :
    WritesAtMostOne before after :=
  .inl ⟨hmod, e, fun _ hj => (congrArg (·[_]) hkeys).trans (get_set_of_ne before.keys v hj)⟩

theorem WritesAtMostOne.of_putBit (n : Fin 8) (d : Bool) (hmod : after.modifiers = putBit before.modifiers n d)
    (hkeys : after.keys = before.keys) : WritesAtMostOne before after := by
  refine .inr ⟨hkeys, n, fun m hm => ?_⟩
  rw [hmod, getLsbD_putBit _ n.isLt, if_neg (Fin.val_ne_of_ne hm)]

/-- The relation speaks of the Keyboard State alone, so another block with the same `modifiers` and `keys` may stand in the first place. -/
theorem WritesAtMostOne.congr_before {b : Block} (h : WritesAtMostOne b after) (hmod : b.modifiers = before.modifiers)
    (hkeys : b.keys = before.keys) : WritesAtMostOne before after := by
  rwa [WritesAtMostOne, hmod, hkeys] at h

end WritesAtMostOne

/-! ## The tracker's operations -/

theorem modPress_writesAtMostOne (n : Fin 8) (b : Block) : WritesAtMostOne b (modPress n b) := by
  rw [modPress_eq]
  exact .of_putBit n true rfl rfl

theorem modRelease_writesAtMostOne (n : Fin 8) (b : Block) : WritesAtMostOne b (modRelease n b) := by
  rw [modRelease_eq]
  exact .of_putBit n false rfl rfl

theorem ordPress_writesAtMostOne (id : Byte) (b : Block) : WritesAtMostOne b (ordPress id b) := by
  rcases ordPress_cases id b with ⟨_, h⟩ | ⟨_, _, h⟩ | ⟨_, _, _, _, h⟩ <;> rw [h]
  · exact .of_keyboard_eq rfl rfl
  · exact .of_keyboard_eq rfl rfl
  · exact .of_set rfl rfl

theorem ordRelease_writesAtMostOne (id : Byte) (b : Block) : WritesAtMostOne b (ordRelease id b) := by
  rcases ordRelease_cases id b with ⟨_, h⟩ | ⟨_, _, _, h⟩ <;> rw [h]
  · exact .of_keyboard_eq rfl rfl
  · exact .of_set rfl rfl

/-- The identity's class selects one operation (R121). -/
theorem trackIdentity_writesAtMostOne {cfg : Config} {isBreak : Bool} {id : Byte} {b t : Block}
    (h : trackIdentity cfg isBreak id b = some t) : WritesAtMostOne b t := by
  rcases trackIdentity_cases cfg isBreak id b with ⟨_, ht⟩ | ⟨n, _, ht⟩ | ⟨_, ht⟩ | ⟨_, ht⟩ | ⟨_, ht⟩ <;> rw [ht] at h <;> cases h
  · exact .of_keyboard_eq rfl rfl
  · cases isBreak with
    | true => exact modRelease_writesAtMostOne n b
    | false => exact modPress_writesAtMostOne n b
  · cases isBreak with
    | true => exact ordRelease_writesAtMostOne cfg.idCapsLock b
    | false => exact ordPress_writesAtMostOne cfg.idCapsLock b
  · cases isBreak with
    | true => exact ordRelease_writesAtMostOne id b
    | false => exact ordPress_writesAtMostOne id b

/-! ## The step -/

/-- The decoder before the tracker and the resolution of `changed` after it write neither `modifiers` nor `keys` (R170, R193). -/
theorem execStep_writesAtMostOne {l c d : Bool} {s t : State} (h : execStep l c d s = .next t) : WritesAtMostOne s.block t.block := by
  obtain ⟨hmod, hkeys, _⟩ := pollLink_keyboard c d s.block
  rcases execStep_cases l c d s with ⟨_, hx⟩ | ⟨_, _, _, hd, hx⟩ | ⟨_, _, _, hx⟩ <;> rw [hx] at h <;> cases h
  · exact .of_keyboard_eq hmod hkeys
  · exact (trackIdentity_writesAtMostOne hd).congr_before hmod hkeys

/-- Settles O12: a step without a reset is one STEP, whose decoder hands the tracker at most one event. -/
theorem atMostOneSlotOrModifierBitPerStep : Obligations.AtMostOneSlotOrModifierBitPerStep := by
  intro s w ws hs hw hr
  have hn : nextWord s = w := nextWord_cons s hw
  obtain ⟨b, r, hstep⟩ := step_completes hs
  have hexec := (step_of_not_rst hs (hn.symm ▸ hr)).symm.trans hstep
  exact ⟨_, hstep, execStep_writesAtMostOne (s := consume s) hexec⟩

end Sys2Proof.Machine
